-- ==== Sys2Proof/Word.lean ====
section
/-! DEFINITION. The word types of SDS-CODEC and the RGB888 triple (spec/00_scope.md R8, R9). -/

namespace Sys2Proof

/-- A bus word, a command word, a register: 32 bits (R60, R90, R20). -/
abbrev Word := BitVec 32

/-- A byte: a PBUF byte, a colour channel, a byte lane. -/
abbrev Byte := BitVec 8

/-- A 4-bit nibble as it stands in a packed byte or a LUT word: 0 to 15, of which 8 to 15 are
no palette index (R150). -/
abbrev Nibble := BitVec 4

/-- A palette index: the position 0 to 7 of a palette entry (00_scope.md glossary, "Index"). -/
abbrev Index := BitVec 3

/-- An aperture offset: 23 bits of byte offset into the 8 MiB aperture (R60, R61). -/
abbrev Offset := BitVec 23

/-- An RGB888 triple, three unsigned 8-bit channels (R9): channel 0 is `r`, 1 is `g`, 2 is `b`. -/
structure Rgb where
  r : Byte
  g : Byte
  b : Byte
deriving DecidableEq, Repr

end Sys2Proof
end

