-- ==== Sys2Proof/Syntax.lean ====
section
/-! DEFINITION. The nine commands of SDS-CODEC (spec/30_encoding.md R91, R93), one constructor per row of
spec/opcode_table.json, and the assembler's commands (R98). -/

namespace Sys2Proof

/-- The commands (R93). Each operand has exactly the width of its field (R92), so no operand is out of range. -/
inductive Instr where
  /-- NOP (43_control.md R184). -/
  | nop
  /-- QUANT: quantize one RGB888 triple (40_quantizer.md R116). -/
  | quant (r g b : Byte)
  /-- LUT: palette lookup of one nibble (40_quantizer.md R117). -/
  | lut (idx : Nibble)
  /-- PACK2: pack two indices into one byte (42_nibble.md R151). -/
  | pack2 (a b : Index)
  /-- PACK2.DUP: pack the last pixel of an odd-width row (42_nibble.md R152). -/
  | pack2Dup (a : Index)
  /-- UNPACK1: unpack one byte into two palette colours (42_nibble.md R153). -/
  | unpack1 (byte : Byte)
  /-- DITHER: error diffusion of RASTER in place (41_dither.md R138). -/
  | dither
  /-- PACK: quantize and pack RASTER into PBUF (42_nibble.md R154). -/
  | pack
  /-- UNPACK: unpack PBUF into RASTER (42_nibble.md R155). -/
  | unpack
deriving DecidableEq, Repr

/-- One line of the command assembler (R98). Operands are written numbers, so they can be out of range;
`raw` is `.word`. -/
inductive AsmCommand where
  | nop
  /-- `QUANT #0xRRGGBB`. -/
  | quantWord (rgb : Nat)
  /-- `QUANT r, g, b`. -/
  | quant (r g b : Nat)
  | lut (i : Nat)
  | pack2 (a b : Nat)
  | pack2Dup (a : Nat)
  | unpack1 (byte : Nat)
  | dither
  | pack
  | unpack
  /-- `.word 0xXXXXXXXX`: a raw word, written unchanged. -/
  | raw (w : Nat)
deriving DecidableEq, Repr

end Sys2Proof
end

