-- ==== Sys2Proof/Config.lean ====
section
/-! DEFINITION. What an implementation fixes (spec/00_scope.md R6) and the free values: what the spec
leaves UNSPECIFIED (R10) or OPEN (R61, R213). -/

namespace Sys2Proof

/-- The implementation parameters of R6 that the block's behaviour depends on. A model takes each as an
argument: the configuration is a field of the machine's state that no step changes. -/
structure Config where
  /-- PALETTE: 8 RGB888 triples, index 0 to 7 (R110). -/
  palette : Vector Rgb 8
  /-- FRAC_BITS, the fraction bits F of a working value (R130). -/
  fracBits : Nat
  /-- MAX_W, the largest WIDTH the block accepts. -/
  maxW : Nat
  /-- MAX_H, the largest HEIGHT the block accepts. -/
  maxH : Nat
deriving DecidableEq, Repr

/-- RASTER_WORDS, the RASTER capacity in pixels (R6). -/
def Config.rasterWords (c : Config) : Nat := c.maxW * c.maxH

/-- PBUF_BYTES, the PBUF capacity in bytes (R6). -/
def Config.pbufBytes (c : Config) : Nat := c.maxH * ((c.maxW + 1) / 2)

/-- The default palette of R110. Entries 1 and 4 are the source's (S6, S7); the spec marks the other six as
general knowledge (93_implementation_defined.md G1 to G6). PRESUMED by the spec itself, unsafe: log 3. -/
def Config.defaultPalette : Vector Rgb 8 := #v[
  ⟨0x00, 0x00, 0x00⟩,   -- 0 Black
  ⟨0xFF, 0xFF, 0xFF⟩,   -- 1 White
  ⟨0x43, 0x8A, 0x1C⟩,   -- 2 Green
  ⟨0x64, 0x40, 0xFF⟩,   -- 3 Blue
  ⟨0xBF, 0x00, 0x00⟩,   -- 4 Red
  ⟨0xFF, 0xF3, 0x38⟩,   -- 5 Yellow
  ⟨0xE8, 0x7E, 0x00⟩,   -- 6 Orange
  ⟨0xC2, 0xA4, 0xF4⟩]   -- 7 Light-Purple

/-- The defaults of R6: the values this spec's hardware takes. -/
def Config.default : Config where
  palette := Config.defaultPalette
  fracBits := 4
  maxW := 800
  maxH := 480

/-- FREE VALUE. The byte that draw number `n` gives the memory byte at aperture offset `a`: the
UNSPECIFIED contents of RASTER and PBUF (R210, R240, R241, R246; U1, U3, U4, U6). Logs 4 to 7. -/
opaque Config.freeByte : Nat → Nat → BitVec 8

/-- FREE VALUE. The word that draw number `n` gives a host read of RASTER or PBUF while BUSY = 1
(R246, U5). Log 8. -/
opaque Config.freeWord : Nat → BitVec 32

/-- OPEN parameter BLOCK_BASE: the host address of aperture offset 0 (R6, R61, U20). Log 15. -/
opaque Config.blockBase : Nat

/-- OPEN parameter IRQ_LINE: the platform line that irq drives (R213, U21). Log 15. -/
opaque Config.irqLine : Nat

end Sys2Proof
end

