-- ==== Sys2Proof/WellFormed.lean ====
section
/-! DEFINITION. The checks: on a configuration (spec/00_scope.md R6, spec/40_quantizer.md R111), on an assembler
command (spec/30_encoding.md R98) and on a command. -/

namespace Sys2Proof

/-- The legal ranges of R6: FRAC_BITS 0 to 8, MAX_W and MAX_H 1 to 4095, MAX_W × MAX_H at most 524288. -/
def Config.inRange (c : Config) : Bool :=
  decide (c.fracBits ≤ 8) && decide (1 ≤ c.maxW) && decide (c.maxW ≤ 4095) &&
  decide (1 ≤ c.maxH) && decide (c.maxH ≤ 4095) && decide (c.maxW * c.maxH ≤ 524288)

/-- R111: the eight entries of PALETTE are pairwise distinct. -/
def Config.paletteDistinct (c : Config) : Bool := decide (c.palette.toList.Nodup)

/-- A configuration inside the spec (R6 and R111). -/
def Config.wf (c : Config) : Bool := c.inRange && c.paletteDistinct

/-- Every command is well-formed: each operand's type is exactly its field (R92), so no operand value is
outside its field. A nibble of 8 to 15 is a well-formed LUT operand whose command raises BAD_INDEX (R117). -/
def Instr.wf : Instr → Bool
  | .nop => true
  | .quant _ _ _ => true
  | .lut _ => true
  | .pack2 _ _ => true
  | .pack2Dup _ => true
  | .unpack1 _ => true
  | .dither => true
  | .pack => true
  | .unpack => true

/-- R98: an assembler refuses an operand out of range. -/
def AsmCommand.wf : AsmCommand → Bool
  | .nop => true
  | .quantWord rgb => decide (rgb < 2 ^ 24)
  | .quant r g b => decide (r < 256) && decide (g < 256) && decide (b < 256)
  | .lut i => decide (i ≤ 15)
  | .pack2 a b => decide (a ≤ 7) && decide (b ≤ 7)
  | .pack2Dup a => decide (a ≤ 7)
  | .unpack1 byte => decide (byte < 256)
  | .dither => true
  | .pack => true
  | .unpack => true
  | .raw w => decide (w < 2 ^ 32)

end Sys2Proof
end

