-- ==== Sys2Proof/Decode.lean ====
section
/-! DEFINITION. The decoder (spec/30_encoding.md R93), the encoder (R91, R98) and the opcode map's rows. -/

namespace Sys2Proof

/-- Why a word is no command: the two error codes `decode` of R93 returns. -/
inductive DecodeError where
  /-- OP is 0x8 to 0xF (R94). -/
  | illegalOpcode
  /-- A must-be-zero bit is 1 under a defined opcode (R95). -/
  | reservedField
deriving DecidableEq, Repr

/-- What `decode` returns: a command or an error code (R93). -/
inductive Decoded where
  | command (i : Instr)
  | error (e : DecodeError)
deriving DecidableEq, Repr

/-- Bits [lo + len - 1 : lo] of a command word (R8). -/
def field (w : Word) (lo len : Nat) : BitVec len := w.extractLsb' lo len

/-- A must-be-zero field (R95): the command if bits [lo + len - 1 : lo] are 0, else RESERVED_FIELD. -/
def mustBeZero (w : Word) (lo len : Nat) (d : Decoded) : Decoded :=
  if field w lo len = 0#len then d else .error .reservedField

/-- The normative decoder of R93, its checks in the order they stand there. -/
def decode (w : Word) : Decoded :=
  let op := (field w 28 4).toNat
  if 8 ≤ op then .error .illegalOpcode
  else mustBeZero w 24 4 <|
    match op with
    | 0 => mustBeZero w 0 24 (.command .nop)
    | 1 => .command (.quant (field w 16 8) (field w 8 8) (field w 0 8))
    | 2 => mustBeZero w 4 20 (.command (.lut (field w 0 4)))
    | 3 => mustBeZero w 7 17 <|
        if field w 6 1 = 0#1 then .command (.pack2 (field w 3 3) (field w 0 3))
        else mustBeZero w 0 3 (.command (.pack2Dup (field w 3 3)))
    | 4 => mustBeZero w 8 16 (.command (.unpack1 (field w 0 8)))
    | 5 => mustBeZero w 0 24 (.command .dither)
    | 6 => mustBeZero w 0 24 (.command .pack)
    | 7 => mustBeZero w 0 24 (.command .unpack)
    | _ => .error .illegalOpcode

/-- The word of a command, laid out as R91 gives it: OP, RSV = 0, OPERAND. -/
def encode : Instr → Word
  | .nop => 0x0#4 ++ 0#28
  | .quant r g b => 0x1#4 ++ 0#4 ++ r ++ g ++ b
  | .lut idx => 0x2#4 ++ 0#24 ++ idx
  | .pack2 a b => 0x3#4 ++ 0#21 ++ 0#1 ++ a ++ b
  | .pack2Dup a => 0x3#4 ++ 0#21 ++ 1#1 ++ a ++ 0#3
  | .unpack1 byte => 0x4#4 ++ 0#20 ++ byte
  | .dither => 0x5#4 ++ 0#28
  | .pack => 0x6#4 ++ 0#28
  | .unpack => 0x7#4 ++ 0#28

/-- A row of the opcode map (R93): a word is this command exactly when its masked bits are the pattern. -/
structure OpcodeRow where
  mnemonic : String
  pattern : Word
  mask : Word
deriving DecidableEq, Repr

/-- The row of R93 for a command. -/
def opcodeRow : Instr → OpcodeRow
  | .nop => ⟨"NOP", 0x00000000, 0xFFFFFFFF⟩
  | .quant _ _ _ => ⟨"QUANT", 0x10000000, 0xFF000000⟩
  | .lut _ => ⟨"LUT", 0x20000000, 0xFFFFFFF0⟩
  | .pack2 _ _ => ⟨"PACK2", 0x30000000, 0xFFFFFFC0⟩
  | .pack2Dup _ => ⟨"PACK2.DUP", 0x30000040, 0xFFFFFFC7⟩
  | .unpack1 _ => ⟨"UNPACK1", 0x40000000, 0xFFFFFF00⟩
  | .dither => ⟨"DITHER", 0x50000000, 0xFFFFFFFF⟩
  | .pack => ⟨"PACK", 0x60000000, 0xFFFFFFFF⟩
  | .unpack => ⟨"UNPACK", 0x70000000, 0xFFFFFFFF⟩

/-- The nine rows of the opcode map, in the table's order (R93). -/
def opcodeRows : List OpcodeRow :=
  [opcodeRow .nop, opcodeRow (.quant 0 0 0), opcodeRow (.lut 0), opcodeRow (.pack2 0 0), opcodeRow (.pack2Dup 0),
   opcodeRow (.unpack1 0), opcodeRow .dither, opcodeRow .pack, opcodeRow .unpack]

/-- A word matches a row when its masked bits are the row's pattern (R93). -/
def matchesRow (w : Word) (row : OpcodeRow) : Bool := w &&& row.mask == row.pattern

/-- The assembler of R98: the command word of a line, or none where an operand is out of range. -/
def assemble (c : AsmCommand) : Option Word :=
  if c.wf then
    match c with
    | .nop => some 0x00000000
    | .quantWord rgb => some (0x10#8 ++ BitVec.ofNat 24 rgb)
    | .quant r g b => some (0x10#8 ++ BitVec.ofNat 8 r ++ BitVec.ofNat 8 g ++ BitVec.ofNat 8 b)
    | .lut i => some (0x20000000 ||| BitVec.ofNat 32 i)
    | .pack2 a b => some (0x30000000 ||| BitVec.ofNat 32 a <<< 3 ||| BitVec.ofNat 32 b)
    | .pack2Dup a => some (0x30000040 ||| BitVec.ofNat 32 a <<< 3)
    | .unpack1 byte => some (0x40000000 ||| BitVec.ofNat 32 byte)
    | .dither => some 0x50000000
    | .pack => some 0x60000000
    | .unpack => some 0x70000000
    | .raw w => some (BitVec.ofNat 32 w)
  else none

/-- The instruction the decoder reads from a command word whose low `nbits` bits are `w`'s and whose other
bits are 0. A command is one 32-bit bus word (R90), so there is no byte order to lay out. -/
def decodeTableWord (nbits w : Nat) : Option Instr :=
  match decode (BitVec.ofNat 32 (w % 2 ^ nbits)) with
  | .command i => some i
  | .error _ => none

end Sys2Proof
end

