-- ==== Sys2Proof/Machine/State.lean ====
section
/-! DEFINITION. The machine's state as plain data, the reasons a step can stop, and the state after reset
(spec/10_state.md R20 to R43, spec/70_reset_and_hazards.md R240). -/

namespace Sys2Proof.Machine

/-- Why the machine stops with a fault. The block itself never stops (R212): a command's errors are recorded
in STATUS.ERR and BUS_ERROR is a response. -/
inductive Fault where
  /-- Raised by `step` alone, when FRAC_BITS, MAX_W or MAX_H is outside the legal range of R6: the spec
  describes no such block. Safe. Log 13. -/
  | parametersOutOfRange
deriving DecidableEq, Repr

/-- Why the model refuses to go on. -/
inductive Refusal where
  /-- Raised by `exec` for a command that has no meaning yet; no arm of `exec` uses it now. Safe. -/
  | notModelled (mnemonic : String)
  /-- Raised by `step` alone, when two entries of PALETTE are equal: "A model refuses a PALETTE argument with two
  equal entries" (R111, U17). Safe. Log 13. -/
  | paletteNotDistinct
deriving DecidableEq, Repr

/-- The error names of R201. -/
inductive ErrCode where
  | illegalOpcode
  | reservedField
  | badIndex
  | badGeometry
  | cmdWhileBusy
deriving DecidableEq, Repr

/-- The engine's phase (R42): IDLE, or RUNNING with the accepted word and the latched GEOM.WIDTH and GEOM.HEIGHT. -/
inductive Phase where
  | idle
  | running (cmd : Word) (wl hl : BitVec 16)
deriving DecidableEq, Repr

/-- One entry of WORK: a working value for each channel (R41, R130), a number in 0 .. 255·2^F. -/
structure WorkPixel where
  r : Nat
  g : Nat
  b : Nat
deriving DecidableEq, Repr

/-- A host bus transaction (R60): always 4 bytes, at a 23-bit byte offset. -/
inductive Transaction where
  | read (off : Offset)
  | write (off : Offset) (wdata : Word) (strb : BitVec 4)
deriving DecidableEq, Repr

/-- The response of a transaction (R60). -/
inductive Resp where
  | ok
  | busError
deriving DecidableEq, Repr

/-- What a transaction returns to the host (R60): a read (rdata, resp), a write resp. -/
inductive Answer where
  | read (rdata : Word) (resp : Resp)
  | write (resp : Resp)
deriving DecidableEq, Repr

/-- One turn of the interleaving (R5): a whole host transaction, the reset input (R240), or an engine step,
either one that does not yet complete the command or the completing one (R183, R190). Log 1. -/
inductive Turn where
  | host (t : Transaction)
  | hardReset
  | engineWork
  | engineComplete
deriving DecidableEq, Repr

/-- The memories RASTER and PBUF as one list of cells keyed by aperture byte offset (R62): PBUF byte k at
0x100000 + k (R66), channel bytes of RASTER[p] at 0x200000 + 4p + lane (R67). Log 16. -/
abbrev Memory := List Host.Cell

/-- The canonical form: addresses strictly rising. An unlisted address holds no stored byte. -/
abbrev Memory.wf (m : Memory) : Prop := m.Pairwise (fun c d => c.1 < d.1)

/-- The state of SDS-CODEC. STATUS.BUSY, STATUS.IRQ, CAPS and PAL0 to PAL7 are computed from these fields (R21, R28,
R36, R42); CTRL.SRST and STATUS.ERRCLR have no storage (R23, R27). -/
structure State where
  /-- The block's parameters and palette ROM: constants (R6, R21, R36). -/
  cfg : Config
  /-- CTRL.IE (R22). -/
  ie : Bool
  /-- STATUS.DONE (R26). -/
  done : Bool
  /-- STATUS.ERR (R29). -/
  err : BitVec 4
  /-- ERRINFO (R35). -/
  errinfo : Word
  /-- LASTCMD, what a read of CMD returns (R31). -/
  lastcmd : Word
  /-- GEOM: HEIGHT in [31:16], WIDTH in [15:0] (R32). -/
  geom : Word
  /-- RESULT0 (R33). -/
  result0 : Word
  /-- RESULT1 (R34). -/
  result1 : Word
  /-- The engine's phase and its latched command and geometry (R42). -/
  phase : Phase
  /-- The hidden progress position of a running frame command (R42). Log 2. -/
  progress : Nat
  /-- WORK (R41), as the last DITHER left it; nothing is known of it before. Log 10. -/
  work : List WorkPixel
  /-- RASTER and PBUF (R39, R40). -/
  mem : Memory
  /-- The MODEL's own: the draw an unlisted memory byte reads from. Logs 4, 5. -/
  memDraw : Nat
  /-- The MODEL's own: the number of the next draw of UNSPECIFIED values. Log 5. -/
  draws : Nat
  /-- The MODEL's own: the host wrote RASTER or PBUF since the running command was accepted (R246). Log 7. -/
  disturbed : Bool
  /-- The MODEL's own: what the latest host transaction returned (R60). Log 11. -/
  answer : Option Answer
  /-- The MODEL's own: the turns still to come, in order (R5). Log 1. -/
  turns : List Turn
deriving DecidableEq, Repr

/-- The block right after a hardware reset (R240), with the default parameters (R6). RASTER and PBUF list nothing:
every byte is the free value of draw 0 (log 4). -/
def State.reset : State where
  cfg := Config.default
  ie := false
  done := false
  err := 0
  errinfo := 0
  lastcmd := 0
  geom := 0
  result0 := 0
  result1 := 0
  phase := .idle
  progress := 0
  work := []
  mem := []
  memDraw := 0
  draws := 1
  disturbed := false
  answer := none
  turns := []

end Sys2Proof.Machine
end

