-- ==== Sys2Proof/Machine/Operands.lean ====
section
/-! DEFINITION. The operand forms: command operands (spec/30_encoding.md R92), palette entries and colour words
(R9, R110), the packed byte (R150), the geometry (R11, R32, R71, R72), and where a command's operands lie in memory. -/

namespace Sys2Proof.Machine

/-- PAL(i): palette entry i (R9, R110). -/
def paletteColour (c : Config) (i : Index) : Rgb := c.palette[i.toNat]

/-- The packed word form {8'b0, r, g, b} of a triple (R9). -/
def rgbWord (t : Rgb) : Word := 0#8 ++ t.r ++ t.g ++ t.b

/-- The PALi word, {8'b0, PAL(i)} (R36). -/
def paletteWord (c : Config) (i : Index) : Word := rgbWord (paletteColour c i)

/-- A nibble as a palette index: 0 to 7 is that index, 8 to 15 is none (R150, R204). -/
def nibbleIndex (n : Nibble) : Option Index :=
  if n.toNat < 8 then some (n.setWidth 3) else none

/-- byte[7:4], the high nibble: the earlier pixel (R150, R92). -/
def highNibble (x : Byte) : Nibble := x.extractLsb' 4 4

/-- byte[3:0], the low nibble: the later pixel (R150, R92). -/
def lowNibble (x : Byte) : Nibble := x.extractLsb' 0 4

/-- The packed byte {1'b0, a, 1'b0, b} (R150, R151). -/
def packByte (a b : Index) : Byte := 0#1 ++ a ++ 0#1 ++ b

/-- GEOM.WIDTH, bits [15:0] (R32). -/
def geomWidth (geom : Word) : BitVec 16 := geom.extractLsb' 0 16

/-- GEOM.HEIGHT, bits [31:16] (R32). -/
def geomHeight (geom : Word) : BitVec 16 := geom.extractLsb' 16 16

/-- The geometry a frame command runs under: Wl and Hl latched at acceptance (R42, R180). `step` runs a command only
while RUNNING; on an IDLE state, which no engine step starts from (R185), it is what an acceptance would latch
(DESIGN CHOICE, log 12). -/
def State.latchedGeometry (s : State) : BitVec 16 × BitVec 16 :=
  match s.phase with
  | .running _ wl hl => (wl, hl)
  | .idle => (geomWidth s.geom, geomHeight s.geom)

/-- The capacity check 1 ≤ Wl ≤ MAX_W and 1 ≤ Hl ≤ MAX_H (R182, R205). -/
def geometryOk (c : Config) (wl hl : BitVec 16) : Bool :=
  decide (1 ≤ wl.toNat) && decide (wl.toNat ≤ c.maxW) && decide (1 ≤ hl.toNat) && decide (hl.toNat ≤ c.maxH)

/-- The ERRINFO of BAD_GEOMETRY: {Hl[15:0], Wl[15:0]} (R205). -/
def geometryInfo (wl hl : BitVec 16) : Word := hl ++ wl

/-- BPR = ceil(W / 2), the bytes per row (R11, R71). -/
def bytesPerRow (w : Nat) : Nat := (w + 1) / 2

/-- L(W, H) = H · ceil(W / 2), the encoded buffer's length in bytes (R72). -/
def bufferLength (w h : Nat) : Nat := h * bytesPerRow w

/-- The aperture offset of PBUF byte k (R62, R66). -/
def pbufAddr (k : Nat) : Nat := 0x100000 + k

/-- The aperture offset of byte lane `lane` of RASTER[p] (R62, R67): lane 2 is r, 1 is g, 0 is b. -/
def rasterAddr (p lane : Nat) : Nat := 0x200000 + 4 * p + lane

/-- The memory a command writes (R80). -/
inductive Destination where
  | none
  | raster
  | pbuf
deriving DecidableEq, Repr

/-- R80: DITHER and UNPACK write RASTER, PACK writes PBUF, element commands and NOP write no memory. -/
def destination : Instr → Destination
  | .nop => .none
  | .quant _ _ _ => .none
  | .lut _ => .none
  | .pack2 _ _ => .none
  | .pack2Dup _ => .none
  | .unpack1 _ => .none
  | .dither => .raster
  | .pack => .pbuf
  | .unpack => .raster

/-- The memory the word's command writes; a word that is no command writes none (R94, R95). -/
def wordDestination (w : Word) : Destination :=
  match decode w with
  | .command i => destination i
  | .error _ => .none

/-- How many pixels or bytes a frame command processes under (W, H): the range of its progress position (R42).
DITHER processes pixels (R132), PACK and UNPACK bytes (R154, R155); an element command keeps no position. -/
def frameUnits (i : Instr) (w h : Nat) : Nat :=
  match i with
  | .nop => 0
  | .quant _ _ _ => 0
  | .lut _ => 0
  | .pack2 _ _ => 0
  | .pack2Dup _ => 0
  | .unpack1 _ => 0
  | .dither => w * h
  | .pack => bufferLength w h
  | .unpack => bufferLength w h

/-- The range of the progress position of a running word (R42). -/
def wordUnits (cmd : Word) (wl hl : BitVec 16) : Nat :=
  match decode cmd with
  | .command i => frameUnits i wl.toNat hl.toNat
  | .error _ => 0

end Sys2Proof.Machine
end

