-- ==== Sys2Proof/Machine/Flags.lean ====
section
/-! DEFINITION. The computed flags and register words: BUSY, IRQ, STATUS, CTRL, CAPS (spec/10_state.md R21 to R30, R42,
R43) and the error codes (spec/60_exceptions.md R201). -/

namespace Sys2Proof.Machine

/-- STATUS.BUSY: "The phase is IDLE exactly when STATUS.BUSY = 0" (R25, R42). -/
def State.busy (s : State) : Bool :=
  match s.phase with
  | .idle => false
  | .running _ _ _ => true

/-- The irq output and STATUS.IRQ: CTRL.IE AND STATUS.DONE (R28, R43). -/
def State.irq (s : State) : Bool := s.ie && s.done

/-- The platform's interrupt lines as this block drives them: irq on IRQ_LINE (R213, U21). Log 15. -/
def State.platformLine (s : State) (line : Nat) : Bool := decide (line = Config.irqLine) && s.irq

/-- The STATUS word read, {20'b0, ERR, 4'b0, IRQ, 1'b0, DONE, BUSY} (R30). -/
def State.statusWord (s : State) : Word :=
  0#20 ++ s.err ++ 0#4 ++ BitVec.ofBool s.irq ++ 0#1 ++ BitVec.ofBool s.done ++ BitVec.ofBool s.busy

/-- The CTRL word read: IE in bit 0, SRST and the reserved bits read 0 (R22, R23, R24). -/
def State.ctrlWord (s : State) : Word := 0#31 ++ BitVec.ofBool s.ie

/-- The CAPS word: {VERSION = 1, FRAC_BITS, MAX_H, MAX_W} (R21). -/
def capsWord (c : Config) : Word :=
  1#4 ++ BitVec.ofNat 4 c.fracBits ++ BitVec.ofNat 12 c.maxH ++ BitVec.ofNat 12 c.maxW

/-- The code of an error, as held in STATUS.ERR (R201). Codes 6 to 15 are never produced (U11). -/
def errCode : ErrCode → BitVec 4
  | .illegalOpcode => 1
  | .reservedField => 2
  | .badIndex => 3
  | .badGeometry => 4
  | .cmdWhileBusy => 5

/-- The error a word that is no command raises (R94, R95, R182). -/
def decodeErrCode : DecodeError → ErrCode
  | .illegalOpcode => .illegalOpcode
  | .reservedField => .reservedField

end Sys2Proof.Machine
end

