-- ==== Sys2Proof/Machine/Ops.lean ====
section
/-! DEFINITION. The shared operations: reading and writing the memories (spec/20_memory.md R66, R67, R70, R71), drawing
UNSPECIFIED contents (R10), acceptance, completion, recording and raising an error and clearing it
(spec/43_control.md, spec/60_exceptions.md), and the two resets (spec/70_reset_and_hazards.md). -/

namespace Sys2Proof.Machine

/-! ### The memories -/

/-- The stored byte at address `a`, if the memory lists one. -/
def Memory.stored : Memory → Nat → Option Byte
  | [], _ => none
  | (b, v) :: m, a => if a = b then some v else Memory.stored m a

/-- Stores one byte, keeping the addresses strictly rising. -/
def Memory.store : Memory → Nat → Byte → Memory
  | [], a, v => [(a, v)]
  | (b, u) :: m, a, v =>
    if a < b then (a, v) :: (b, u) :: m
    else if a = b then (a, v) :: m
    else (b, u) :: Memory.store m a v

/-- Stores a list of cells, in the list's order. -/
def Memory.storeAll (m : Memory) (cells : List Host.Cell) : Memory :=
  cells.foldl (fun m c => m.store c.1 c.2) m

/-- What a memory byte that nothing has written reads as: the free value of the state's current draw (R39, R40, R240;
U1, U6). The ONE definition of it. Log 4. -/
def State.unwritten (s : State) (a : Nat) : Byte := Config.freeByte s.memDraw a

/-- The byte of RASTER or PBUF at aperture offset `a`. -/
def State.readByte (s : State) (a : Nat) : Byte := (s.mem.stored a).getD (s.unwritten a)

/-- PBUF[k] (R40). -/
def State.pbufByte (s : State) (k : Nat) : Byte := s.readByte (pbufAddr k)

/-- RASTER[p] (R39, R67). -/
def State.rasterPixel (s : State) (p : Nat) : Rgb :=
  ⟨s.readByte (rasterAddr p 2), s.readByte (rasterAddr p 1), s.readByte (rasterAddr p 0)⟩

/-- Stores cells into the memories. -/
def State.storeCells (s : State) (cells : List Host.Cell) : State := { s with mem := s.mem.storeAll cells }

/-- The three cells of RASTER[p] (R67). -/
def pixelCells (p : Nat) (t : Rgb) : List Host.Cell :=
  [(rasterAddr p 0, t.b), (rasterAddr p 1, t.g), (rasterAddr p 2, t.r)]

/-- The cells of RASTER[0 .. n - 1], where n is the list's length (R70). -/
def rasterCells (px : List Rgb) : List Host.Cell := px.zipIdx.flatMap (fun tp => pixelCells tp.2 tp.1)

/-- The cells of PBUF[0 .. n - 1], where n is the list's length (R71). -/
def pbufCells (bytes : List Byte) : List Host.Cell := bytes.zipIdx.map (fun xk => (pbufAddr xk.2, xk.1))

/-- RASTER[0 .. n - 1] <- px, where n is the list's length. -/
def State.writeRaster (s : State) (px : List Rgb) : State := s.storeCells (rasterCells px)

/-- PBUF[0 .. n - 1] <- bytes, where n is the list's length. -/
def State.writePbuf (s : State) (bytes : List Byte) : State := s.storeCells (pbufCells bytes)

/-! ### UNSPECIFIED contents (R10) -/

/-- The pixel that draw number `n` gives RASTER[p]. -/
def drawnPixel (n p : Nat) : Rgb :=
  ⟨Config.freeByte n (rasterAddr p 2), Config.freeByte n (rasterAddr p 1), Config.freeByte n (rasterAddr p 0)⟩

/-- The byte that draw number `n` gives PBUF[k]. -/
def drawnByte (n k : Nat) : Byte := Config.freeByte n (pbufAddr k)

/-- The whole of RASTER and the whole of PBUF become UNSPECIFIED (R240, R246): every byte is of a new draw. -/
def State.redrawAll (s : State) : State := { s with mem := [], memDraw := s.draws, draws := s.draws + 1 }

/-- RASTER[0 .. n - 1] becomes UNSPECIFIED (R210, R241): drawn anew, the rest of the memories kept. Log 6. -/
def State.redrawRaster (s : State) (n : Nat) : State :=
  { s.writeRaster ((List.range n).map (drawnPixel s.draws)) with draws := s.draws + 1 }

/-- PBUF[0 .. n - 1] becomes UNSPECIFIED (R241): drawn anew, the rest of the memories kept. Log 6. -/
def State.redrawPbuf (s : State) (n : Nat) : State :=
  { s.writePbuf ((List.range n).map (drawnByte s.draws)) with draws := s.draws + 1 }

/-! ### Acceptance, completion and errors -/

/-- RESULT0 <- r0, RESULT1 <- r1 (R33, R34). -/
def State.setResults (s : State) (r0 r1 : Word) : State := { s with result0 := r0, result1 := r1 }

/-- `accept(w)` of R180: LASTCMD, DONE, BUSY and the latched geometry. The command starts undisturbed (R246) at
progress position 0 (R42). -/
def State.accept (s : State) (w : Word) : State :=
  { s with lastcmd := w, done := false, phase := .running w (geomWidth s.geom) (geomHeight s.geom),
           progress := 0, disturbed := false }

/-- `complete()` of R183: BUSY <- 0, DONE <- 1, phase <- IDLE. -/
def State.complete (s : State) : State :=
  { s with phase := .idle, done := true, progress := 0, disturbed := false }

/-- The memories a frame command leaves: where the host wrote a memory while the command ran, both memories, the command's
results in them included, are UNSPECIFIED (R246), of a draw its decisions did not see. Logs 7, 9. -/
def State.settle (s : State) : State := if s.disturbed then s.redrawAll else s

/-- `record(E, info)` of R209: the first error since the last clear is kept. -/
def State.record (s : State) (e : ErrCode) (info : Word) : State :=
  if s.err = 0#4 then { s with err := errCode e, errinfo := info } else s

/-- `raise E(info)` (R10, R209, R210): the error is recorded, and the command ends aborted, in the completion step.
This is the block's taking of an exception: it has no vector and no handler (R200). -/
def State.raise (s : State) (e : ErrCode) (info : Word) : State := (s.record e info).complete

/-- ERRCLR, the return from an error: ERR <- 0 and ERRINFO <- 0 (R27, R211). -/
def State.clearError (s : State) : State := { s with err := 0, errinfo := 0 }

/-- The geometry check in front of every frame command (R182, R205): BAD_GEOMETRY before any memory access, else the
command's body under W = Wl and H = Hl. -/
def State.framed (s : State) (body : Nat → Nat → State) : State :=
  let (wl, hl) := s.latchedGeometry
  if geometryOk s.cfg wl hl then body wl.toNat hl.toNat
  else s.raise .badGeometry (geometryInfo wl hl)

/-! ### Engine steps that do not complete -/

/-- One engine step before the completing one (R190, U7): it moves the hidden progress position of a frame command and
nothing else, since memory writes take effect at the completing step (R183). Log 2. -/
def State.engineWork (s : State) : State :=
  match s.phase with
  | .idle => s
  | .running cmd wl hl => { s with progress := min (s.progress + 1) (wordUnits cmd wl hl) }

/-! ### Resets -/

/-- Every register of the table of R240 takes its value there, and the engine is IDLE. -/
def State.resetRegisters (s : State) : State :=
  { s with ie := false, done := false, err := 0, errinfo := 0, lastcmd := 0, geom := 0, result0 := 0, result1 := 0,
           phase := .idle, progress := 0, disturbed := false }

/-- Hardware reset (R240): the registers, and every byte of RASTER and PBUF is UNSPECIFIED. A running command ends without
completing. -/
def State.hardReset (s : State) : State := { s.redrawAll.resetRegisters with work := [], answer := none }

/-- The destination memory of a command abandoned by soft reset (R241): RASTER[0 .. Wl·Hl - 1] or PBUF[0 .. L(Wl,Hl) - 1],
as far as the memory reaches, is UNSPECIFIED. Log 6. -/
def State.abandon (s : State) : State :=
  match s.phase with
  | .idle => s
  | .running cmd wl hl =>
    match wordDestination cmd with
    | .none => s
    | .raster => s.redrawRaster (min (wl.toNat * hl.toNat) s.cfg.rasterWords)
    | .pbuf => s.redrawPbuf (min (bufferLength wl.toNat hl.toNat) s.cfg.pbufBytes)

/-- Soft reset (R23, R241). -/
def State.softReset (s : State) : State := s.abandon.resetRegisters

end Sys2Proof.Machine
end

