-- ==== Sys2Proof/Machine/Bus.lean ====
section
/-! DEFINITION. Host transactions: the address map, the register file and the two windows (spec/20_memory.md R60 to R68,
spec/10_state.md R20 to R37, spec/43_control.md R180, R181, R186, spec/70_reset_and_hazards.md R246). -/

namespace Sys2Proof.Machine

/-- The registers of the register file (R20). -/
inductive Reg where
  | caps
  | ctrl
  | status
  | cmd
  | geom
  | result0
  | result1
  | errinfo
  | pal (i : Index)
deriving DecidableEq, Repr

/-- The register at aperture offset 4n of the register file (R20). -/
def regAt (n : Nat) : Reg :=
  match n with
  | 0 => .caps
  | 1 => .ctrl
  | 2 => .status
  | 3 => .cmd
  | 4 => .geom
  | 5 => .result0
  | 6 => .result1
  | 7 => .errinfo
  | k => .pal (BitVec.ofNat 3 k)

/-- The aperture offset of a register (R20). -/
def regOffset : Reg → Nat
  | .caps => 0x000
  | .ctrl => 0x004
  | .status => 0x008
  | .cmd => 0x00C
  | .geom => 0x010
  | .result0 => 0x014
  | .result1 => 0x018
  | .errinfo => 0x01C
  | .pal i => 0x020 + 4 * i.toNat

/-- What an aligned offset reaches (R62): a register, reserved register space, PBUF word j, RASTER word p, or nothing. -/
inductive Region where
  | register (r : Reg)
  | reserved
  | pbuf (j : Nat)
  | raster (p : Nat)
  | unmapped
deriving DecidableEq, Repr

/-- The address map (R62). -/
def regionOf (off : Offset) : Region :=
  let o := off.toNat
  if o < 0x40 then .register (regAt (o / 4))
  else if o < 0x100000 then .reserved
  else if o < 0x200000 then .pbuf ((o - 0x100000) / 4)
  else if o < 0x400000 then .raster ((o - 0x200000) / 4)
  else .unmapped

/-- off[1:0] ≠ 0b00 (R63). -/
def misaligned (off : Offset) : Bool := off.extractLsb' 0 2 != 0#2

/-- The host address of an aperture offset, BLOCK_BASE + off (R61). -/
def hostAddress (off : Offset) : Nat := Config.blockBase + off.toNat

/-- The aperture offset a host address decodes to; an address outside the aperture is not decoded by the block (R61). -/
def offsetOfHostAddress (addr : Nat) : Option Offset :=
  if Config.blockBase ≤ addr ∧ addr < Config.blockBase + 2 ^ 23 then some (BitVec.ofNat 23 (addr - Config.blockBase)) else none

/-- The value a register reads as (R20 to R36). -/
def State.readReg (s : State) : Reg → Word
  | .caps => capsWord s.cfg
  | .ctrl => s.ctrlWord
  | .status => s.statusWord
  | .cmd => s.lastcmd
  | .geom => s.geom
  | .result0 => s.result0
  | .result1 => s.result1
  | .errinfo => s.errinfo
  | .pal i => paletteWord s.cfg i

/-- A full-strobe CMD write: accepted while BUSY = 0 (R180), else rejected, which only records CMD_WHILE_BUSY (R181, R206). -/
def State.writeCmd (s : State) (w : Word) : State :=
  if s.busy then s.record .cmdWhileBusy w else s.accept w

/-- A full-strobe CTRL write: bit 1 starts the soft reset and discards the IE value; else IE <- wdata[0] (R22, R23). -/
def State.writeCtrl (s : State) (w : Word) : State :=
  if w.getLsbD 1 then s.softReset else { s with ie := w.getLsbD 0 }

/-- A full-strobe STATUS write: bit 1 clears DONE, bit 2 clears the error record; nothing else is writable (R26 to R30). -/
def State.writeStatus (s : State) (w : Word) : State :=
  let t := if w.getLsbD 1 then { s with done := false } else s
  if w.getLsbD 2 then t.clearError else t

/-- A full-strobe GEOM write, ignored while BUSY = 1 (R32, R247). -/
def State.writeGeom (s : State) (w : Word) : State := if s.busy then s else { s with geom := w }

/-- A full-strobe register write; a write to a read-only register is ignored (R20, R64). -/
def State.writeReg (s : State) (r : Reg) (w : Word) : State :=
  match r with
  | .caps => s
  | .ctrl => s.writeCtrl w
  | .status => s.writeStatus w
  | .cmd => s.writeCmd w
  | .geom => s.writeGeom w
  | .result0 => s
  | .result1 => s
  | .errinfo => s
  | .pal _ => s

/-- PBUF word j: lane i is byte 4j + i, or 0 past the capacity (R66). -/
def State.pbufWord (s : State) (j : Nat) : Word :=
  let lane (i : Nat) : Byte := if 4 * j + i < s.cfg.pbufBytes then s.pbufByte (4 * j + i) else 0
  lane 3 ++ lane 2 ++ lane 1 ++ lane 0

/-- RASTER word p: {8'b0, r, g, b} (R67). -/
def State.rasterWord (s : State) (p : Nat) : Word := rgbWord (s.rasterPixel p)

/-- Byte lane i of a bus word, wdata[8i+7:8i] (R60, R69). -/
def byteLane (wdata : Word) (i : Nat) : Byte := wdata.extractLsb' (8 * i) 8

/-- The cells a PBUF word write stores: the lanes whose strobe is set and that lie within the capacity (R66). -/
def pbufWriteCells (c : Config) (j : Nat) (wdata : Word) (strb : BitVec 4) : List Host.Cell :=
  ((List.range 4).filter (fun i => strb.getLsbD i && decide (4 * j + i < c.pbufBytes))).map
    (fun i => (pbufAddr (4 * j + i), byteLane wdata i))

/-- The cells a RASTER word write stores: lanes 0 to 2 whose strobe is set; lane 3 is ignored (R67). -/
def rasterWriteCells (p : Nat) (wdata : Word) (strb : BitVec 4) : List Host.Cell :=
  ((List.range 3).filter (fun i => strb.getLsbD i)).map (fun i => (rasterAddr p i, byteLane wdata i))

/-- The answer of a read (R60). -/
def State.answerRead (s : State) (v : Word) : State := { s with answer := some (.read v .ok) }

/-- The answer of a write (R60). -/
def State.answerWrite (s : State) : State := { s with answer := some (.write .ok) }

/-- BUS_ERROR on a read: no effect on the block, rdata 0 (R60, R207). -/
def State.readError (s : State) : State := { s with answer := some (.read 0 .busError) }

/-- BUS_ERROR on a write: no effect on the block (R60, R207). -/
def State.writeError (s : State) : State := { s with answer := some (.write .busError) }

/-- A read of a memory window within capacity: the stored word, or an UNSPECIFIED one while BUSY = 1 (R246). Log 8. -/
def State.windowRead (s : State) (v : Word) : State :=
  if s.busy then { s.answerRead (Config.freeWord s.draws) with draws := s.draws + 1 } else s.answerRead v

/-- A write to a memory window within capacity: the cells are stored, or, while BUSY = 1, the whole of both memories and the
running command's results in them become UNSPECIFIED (R246). Log 7. -/
def State.windowWrite (s : State) (cells : List Host.Cell) : State :=
  if s.busy then { s.redrawAll with disturbed := true }.answerWrite else (s.storeCells cells).answerWrite

/-- MemRead(off, 4) (R60, R62 to R68). -/
def State.hostRead (s : State) (off : Offset) : State :=
  if misaligned off then s.readError
  else
    match regionOf off with
    | .register r => s.answerRead (s.readReg r)
    | .reserved => s.answerRead 0
    | .pbuf j => if s.cfg.pbufBytes ≤ 4 * j then s.readError else s.windowRead (s.pbufWord j)
    | .raster p => if s.cfg.rasterWords ≤ p then s.readError else s.windowRead (s.rasterWord p)
    | .unmapped => s.readError

/-- MemWrite(off, 4, wdata, strb) (R60, R62 to R68). -/
def State.hostWrite (s : State) (off : Offset) (wdata : Word) (strb : BitVec 4) : State :=
  if misaligned off then s.writeError
  else
    match regionOf off with
    | .register r => if strb = 0b1111#4 then (s.writeReg r wdata).answerWrite else s.writeError
    | .reserved => s.answerWrite
    | .pbuf j => if s.cfg.pbufBytes ≤ 4 * j then s.writeError else s.windowWrite (pbufWriteCells s.cfg j wdata strb)
    | .raster p => if s.cfg.rasterWords ≤ p then s.writeError else s.windowWrite (rasterWriteCells p wdata strb)
    | .unmapped => s.writeError

/-- One whole host transaction (R60, R74). -/
def State.hostAccess (s : State) : Transaction → State
  | .read off => s.hostRead off
  | .write off wdata strb => s.hostWrite off wdata strb

end Sys2Proof.Machine
end

