-- ==== Sys2Proof/Machine/Quantizer.lean ====
section
/-! DEFINITION. The color quantizer: distances, the nearest entry, QUANT and LUT (spec/40_quantizer.md). -/

namespace Sys2Proof.Machine

/-- (x - y)^2, exact (R8, R112). -/
def squareDiff (x y : Nat) : Nat := ((x : Int) - (y : Int)).natAbs * ((x : Int) - (y : Int)).natAbs

/-- dist8(t, i), the squared distance on RGB888 (R112). -/
def dist8 (c : Config) (t : Rgb) (i : Index) : Nat :=
  let q := paletteColour c i
  squareDiff t.r.toNat q.r.toNat + squareDiff t.g.toNat q.g.toNat + squareDiff t.b.toNat q.b.toNat

/-- The scan of R113 and R114: the indices 1 to 7 in order, an index taken only where its distance is strictly less,
so that the first index keeps a tie. -/
def firstNearest (dist : Index → Nat) : Index :=
  [1, 2, 3, 4, 5, 6, 7].foldl (fun best i => if dist i < dist best then i else best) 0

/-- nearest8(t) (R113). -/
def nearest8 (c : Config) (t : Rgb) : Index := firstNearest (dist8 c t)

/-- A palette entry scaled to working units, PAL(i).c · 2^F (R114, R133). -/
def scaledColour (c : Config) (i : Index) : WorkPixel :=
  let q := paletteColour c i
  ⟨q.r.toNat * 2 ^ c.fracBits, q.g.toNat * 2 ^ c.fracBits, q.b.toNat * 2 ^ c.fracBits⟩

/-- distW(v, i), the exact squared distance of a working value to a scaled entry (R114). -/
def distW (c : Config) (v : WorkPixel) (i : Index) : Nat :=
  let q := scaledColour c i
  squareDiff v.r q.r + squareDiff v.g q.g + squareDiff v.b q.b

/-- nearestW(v) (R114). -/
def nearestW (c : Config) (v : WorkPixel) : Index := firstNearest (distW c v)

/-- QUANT (R116): RESULT0 <- the nearest index, RESULT1 <- its colour. -/
def execQuant (r g b : Byte) (s : State) : Host.Outcome State Fault Refusal :=
  let k := nearest8 s.cfg ⟨r, g, b⟩
  .next (s.setResults (k.setWidth 32) (paletteWord s.cfg k)).complete

/-- LUT (R117): RESULT0 <- the colour, RESULT1 <- 0; BAD_INDEX for a nibble of 8 to 15. -/
def execLut (idx : Nibble) (s : State) : Host.Outcome State Fault Refusal :=
  match nibbleIndex idx with
  | none => .next (s.raise .badIndex s.lastcmd)
  | some i => .next (s.setResults (paletteWord s.cfg i) 0).complete

end Sys2Proof.Machine
end

