-- ==== Sys2Proof/Machine/Dither.lean ====
section
/-! DEFINITION. The dither engine: working values, error shares, diffusion and DITHER (spec/41_dither.md). -/

namespace Sys2Proof.Machine

/-- MAXV = 255 · 2^F (R130). -/
def maxWork (c : Config) : Nat := 255 * 2 ^ c.fracBits

/-- RASTER[p].c · 2^F for the three channels: the load of R131. -/
def loadWork (c : Config) (t : Rgb) : WorkPixel :=
  ⟨t.r.toNat * 2 ^ c.fracBits, t.g.toNat * 2 ^ c.fracBits, t.b.toNat * 2 ^ c.fracBits⟩

/-- The signed error of a pixel, one number a channel (R133 step 4). -/
structure ErrorTriple where
  r : Int
  g : Int
  b : Int
deriving DecidableEq, Repr

/-- e.c = v.c - PAL(k).c · 2^F, from the value read at step 1 (R133; 90_conflicts.md C6). -/
def quantError (c : Config) (v : WorkPixel) (k : Index) : ErrorTriple :=
  let q := scaledColour c k
  ⟨(v.r : Int) - q.r, (v.g : Int) - q.g, (v.b : Int) - q.b⟩

/-- share(e, w): e·w/16 rounded to nearest, halves away from zero (R134). -/
def share (e : Int) (w : Nat) : Int :=
  if 0 ≤ e then (e * w + 8) / 16 else -((-e * w + 8) / 16)

/-- clamp(x, 0, MAXV) (R8, R136), as the number it stores. -/
def clampWork (maxv : Nat) (x : Int) : Nat :=
  if x < 0 then 0 else if x > (maxv : Int) then maxv else x.toNat

/-- One accumulation into a pixel: each channel updated and clamped at once (R136). -/
def accumulate (c : Config) (w : Nat) (e : ErrorTriple) (v : WorkPixel) : WorkPixel :=
  ⟨clampWork (maxWork c) (v.r + share e.r w), clampWork (maxWork c) (v.g + share e.g w),
   clampWork (maxWork c) (v.b + share e.b w)⟩

/-- diffuse(nx, ny, w, e): a neighbour outside the raster is skipped (R135, R136). -/
def diffuse (c : Config) (W H : Nat) (nx ny : Int) (w : Nat) (e : ErrorTriple) (work : List WorkPixel) : List WorkPixel :=
  if nx < 0 ∨ (W : Int) ≤ nx ∨ (H : Int) ≤ ny then work
  else work.modify (ny * W + nx).toNat (accumulate c w e)

/-- The diffusion of one pixel's error: the four neighbours in the order and with the weights of R135. -/
def diffuseAll (c : Config) (W H x y : Nat) (e : ErrorTriple) (work : List WorkPixel) : List WorkPixel :=
  let work := diffuse c W H (x + 1) y 7 e work
  let work := diffuse c W H ((x : Int) - 1) (y + 1) 3 e work
  let work := diffuse c W H x (y + 1) 5 e work
  diffuse c W H (x + 1) (y + 1) 1 e work

/-- The dither engine in the middle of a frame: WORK, and the output pixels so far, in pixel order. -/
structure DitherState where
  work : List WorkPixel
  out : List Rgb
deriving DecidableEq, Repr

/-- The per-pixel step at (x, y), p = y·W + x (R133, R135). -/
def ditherPixel (c : Config) (W H : Nat) (d : DitherState) (xy : Nat × Nat) : DitherState :=
  let p := xy.2 * W + xy.1
  let v := d.work.getD p ⟨0, 0, 0⟩
  let k := nearestW c v
  let work := d.work.set p (scaledColour c k)
  { work := diffuseAll c W H xy.1 xy.2 (quantError c v k) work
    out := d.out ++ [paletteColour c k] }

/-- The pixels (x, y) of a W × H raster in row-major order (R132). -/
def pixelOrder (W H : Nat) : List (Nat × Nat) :=
  (List.range H).flatMap (fun y => (List.range W).map (fun x => (x, y)))

/-- The dither of a frame (R138): the load (R131), then every pixel in row-major order. -/
def ditherFrame (c : Config) (W H : Nat) (px : List Rgb) : DitherState :=
  (pixelOrder W H).foldl (ditherPixel c W H) { work := px.map (loadWork c), out := [] }

/-- RASTER[0 .. n - 1], read in pixel order (R70). -/
def State.readRaster (s : State) (n : Nat) : List Rgb := (List.range n).map s.rasterPixel

/-- DITHER (R138): BAD_GEOMETRY before any memory access, else RASTER[0 .. W·H - 1] is dithered in place. -/
def execDither (s : State) : Host.Outcome State Fault Refusal :=
  .next <| s.framed fun W H =>
    let d := ditherFrame s.cfg W H (s.readRaster (W * H))
    { s.writeRaster d.out with work := d.work }.settle.complete

end Sys2Proof.Machine
end

