-- ==== Sys2Proof/Machine/Nibble.lean ====
section
/-! DEFINITION. The nibble packer and unpacker: PACK2, PACK2.DUP, UNPACK1, PACK, UNPACK (spec/42_nibble.md). -/

namespace Sys2Proof.Machine

/-- PACK2 (R151): RESULT0 <- the packed byte, RESULT1 <- 0. -/
def execPack2 (a b : Index) (s : State) : Host.Outcome State Fault Refusal :=
  .next (s.setResults ((packByte a b).setWidth 32) 0).complete

/-- PACK2.DUP (R152): the index in both nibbles. -/
def execPack2Dup (a : Index) (s : State) : Host.Outcome State Fault Refusal :=
  .next (s.setResults ((packByte a a).setWidth 32) 0).complete

/-- UNPACK1 (R153): the two colours, the high nibble checked first; BAD_INDEX for a nibble of 8 to 15. -/
def execUnpack1 (byte : Byte) (s : State) : Host.Outcome State Fault Refusal :=
  match nibbleIndex (highNibble byte) with
  | none => .next (s.raise .badIndex s.lastcmd)
  | some hi =>
    match nibbleIndex (lowNibble byte) with
    | none => .next (s.raise .badIndex s.lastcmd)
    | some lo => .next (s.setResults (paletteWord s.cfg hi) (paletteWord s.cfg lo)).complete

/-- The bytes (j, y) of the encoded buffer in increasing index order y·BPR + j (R71, R154, R155). -/
def byteOrder (W H : Nat) : List (Nat × Nat) :=
  (List.range H).flatMap (fun y => (List.range (bytesPerRow W)).map (fun j => (j, y)))

/-- Byte y·BPR + j of the encoded buffer: the indices of pixels (2j, y) and (2j + 1, y), the latter replaced by the former
where the row ends (R154). -/
def packedByteAt (c : Config) (W : Nat) (raster : Nat → Rgb) (jy : Nat × Nat) : Byte :=
  let a := nearest8 c (raster (jy.2 * W + 2 * jy.1))
  let b := if 2 * jy.1 + 1 < W then nearest8 c (raster (jy.2 * W + 2 * jy.1 + 1)) else a
  packByte a b

/-- The encoded buffer of a W × H raster, PBUF[0 .. L(W,H) - 1] (R154). -/
def packFrame (c : Config) (W H : Nat) (raster : Nat → Rgb) : List Byte :=
  (byteOrder W H).map (packedByteAt c W raster)

/-- PACK (R154): BAD_GEOMETRY before any memory access, else PBUF[0 .. L(W,H) - 1] is the encoded buffer. -/
def execPack (s : State) : Host.Outcome State Fault Refusal :=
  .next <| s.framed fun W H => (s.writePbuf (packFrame s.cfg W H s.rasterPixel)).settle.complete

/-- The pixels of one byte of the encoded buffer (R155): none where a used nibble is 8 to 15. With an odd W the low nibble of
each row's last byte is not used and not checked. -/
def unpackedPixels (c : Config) (W j : Nat) (x : Byte) : Option (List Rgb) :=
  match nibbleIndex (highNibble x) with
  | none => none
  | some hi =>
    if 2 * j + 1 < W then
      match nibbleIndex (lowNibble x) with
      | none => none
      | some lo => some [paletteColour c hi, paletteColour c lo]
    else some [paletteColour c hi]

/-- What UNPACK does with the encoded buffer: the raster, or the index of the first bad byte. -/
inductive Unpacked where
  | pixels (px : List Rgb)
  | badByte (k : Nat)
deriving DecidableEq, Repr

/-- The loop of R155 over bytes in increasing index order; it stops at the first bad byte. The pixels of row y's bytes, one
after another, are pixels y·W .. y·W + W - 1. -/
def unpackBytes (c : Config) (W : Nat) (pbuf : Nat → Byte) : List (Nat × Nat) → Unpacked
  | [] => .pixels []
  | (j, y) :: rest =>
    let k := y * bytesPerRow W + j
    match unpackedPixels c W j (pbuf k) with
    | none => .badByte k
    | some px =>
      match unpackBytes c W pbuf rest with
      | .badByte k' => .badByte k'
      | .pixels more => .pixels (px ++ more)

/-- The whole UNPACK of a W × H frame (R155). -/
def unpackFrame (c : Config) (W H : Nat) (pbuf : Nat → Byte) : Unpacked := unpackBytes c W pbuf (byteOrder W H)

/-- UNPACK (R155): BAD_GEOMETRY before any memory access; BAD_INDEX at the first bad byte, with RASTER[0 .. W·H - 1] then
UNSPECIFIED (R210); else RASTER[0 .. W·H - 1] is the unpacked raster. -/
def execUnpack (s : State) : Host.Outcome State Fault Refusal :=
  .next <| s.framed fun W H =>
    match unpackFrame s.cfg W H s.pbufByte with
    | .badByte k => (s.redrawRaster (W * H)).settle.raise .badIndex (BitVec.ofNat 32 k)
    | .pixels px => (s.writeRaster px).settle.complete

end Sys2Proof.Machine
end

