-- ==== Sys2Proof/Machine/Dispatch.lean ====
section
/-! DEFINITION. The dispatch of a decoded command to its meaning (spec/43_control.md R182). -/

namespace Sys2Proof.Machine

def exec (i : Instr) (s : State) : Host.Outcome State Fault Refusal :=
  match i with
  | .nop => Sys2Proof.Machine.execNop s
  | .quant r g b => Sys2Proof.Machine.execQuant r g b s
  | .lut idx => Sys2Proof.Machine.execLut idx s
  | .pack2 a b => Sys2Proof.Machine.execPack2 a b s
  | .pack2Dup a => Sys2Proof.Machine.execPack2Dup a s
  | .unpack1 byte => Sys2Proof.Machine.execUnpack1 byte s
  | .dither => Sys2Proof.Machine.execDither s
  | .pack => Sys2Proof.Machine.execPack s
  | .unpack => Sys2Proof.Machine.execUnpack s

end Sys2Proof.Machine
end

