-- ==== Sys2Proof/Machine/Engine.lean ====
section
/-! DEFINITION. The engine's completing step (spec/43_control.md R182, R183, R185) and one turn of the interleaving
(spec/00_scope.md R5). -/

namespace Sys2Proof.Machine

/-- The completing engine step (R182, R183): while RUNNING(w, Wl, Hl), decode w, raise its error, or run its command. The
engine takes no step while IDLE (R185): the state stands. -/
def State.engineStep (s : State) : Host.Outcome State Fault Refusal :=
  match s.phase with
  | .idle => .next s
  | .running w _ _ =>
    match decode w with
    | .error e => .next (s.raise (decodeErrCode e) w)
    | .command i => exec i s

/-- One turn of the interleaving (R5). -/
def State.takeTurn (s : State) : Turn → Host.Outcome State Fault Refusal
  | .host t => .next (s.hostAccess t)
  | .hardReset => .next s.hardReset
  | .engineWork => .next s.engineWork
  | .engineComplete => s.engineStep

/-- One step of the block: the next turn, or, when no turn is left, the engine's completing step, which is always enabled
while RUNNING (R190). Log 1. -/
def State.turnStep (s : State) : Host.Outcome State Fault Refusal :=
  match s.turns with
  | [] => s.engineStep
  | t :: rest => { s with turns := rest }.takeTurn t

end Sys2Proof.Machine
end

