-- ==== Sys2Proof/Machine/Step.lean ====
section
/-! DEFINITION. The step function, and how the host places a command for the next step. -/

namespace Sys2Proof.Machine

/-- One step. A block whose parameters are outside R6 faults and one whose palette has two equal entries is refused
(R111, U17; log 13); otherwise the next turn of the interleaving (R5). -/
def step (s : State) : Host.Outcome State Fault Refusal :=
  if s.cfg.inRange then
    if s.cfg.paletteDistinct then s.turnStep else .refused .paletteNotDistinct
  else .fault .parametersOutOfRange

/-- The command word whose low `nbits` bits are `w`'s is accepted (R180), as by a host write to CMD, and the next turn is the
engine's completing step. Commands enter only so: the engine fetches nothing (R78). Log 14. -/
def State.withFetchWord (s : State) (nbits w : Nat) : State :=
  { s.accept (BitVec.ofNat 32 (w % 2 ^ nbits)) with turns := .engineComplete :: s.turns }

end Sys2Proof.Machine
end

