-- ==== Sys2Proof/Machine/HostProgram.lean ====
section
/-! DEFINITION. Host programs: their lines and the pseudo-instructions, expanded into turns (spec/30_encoding.md R99, R100). -/

namespace Sys2Proof.Machine

/-- The target of a host-program line (R99): a register name, RASTER[p], PBUFW[j], or a raw offset. -/
inductive Target where
  | reg (r : Reg)
  | raster (p : Nat)
  | pbufw (j : Nat)
  | raw (off : Nat)
deriving DecidableEq, Repr

/-- A line of a host program (R99) or a pseudo-instruction (R100). -/
inductive HostLine where
  /-- `WR <target>, <value>`. -/
  | wr (target : Target) (value : Nat)
  /-- `WR <target>, <value>, strb=0bSSSS`. -/
  | wrStrb (target : Target) (value : Nat) (strb : BitVec 4)
  /-- `RD <target> -> <name>`; the value read is the state's `answer`. -/
  | rd (target : Target)
  /-- `CMD <command>`. -/
  | cmd (c : AsmCommand)
  | wait
  | run (c : AsmCommand)
  | setgeom (w h : Nat)
  | encode
  | decode
  | clrdone
  | clrerr
  | srst
  | irqon
  | irqoff
deriving DecidableEq, Repr

/-- The byte offset a target names (R99). -/
def targetByteOffset : Target → Nat
  | .reg r => regOffset r
  | .raster p => 0x200000 + 4 * p
  | .pbufw j => 0x100000 + 4 * j
  | .raw off => off

/-- The aperture offset of a target. A target past the aperture, which no transaction of R60 can name, is refused (DESIGN CHOICE,
log 22). -/
def targetOffset (t : Target) : Option Offset :=
  if targetByteOffset t < 2 ^ 23 then some (BitVec.ofNat 23 (targetByteOffset t)) else none

/-- The turn of a write line (R99). A value of 2^32 or more, of which R99 and R60 say nothing, is written modulo 2^32
(DESIGN CHOICE, log 22). -/
def writeTurns (t : Target) (v : Nat) (strb : BitVec 4) : Option (List Turn) :=
  (targetOffset t).map (fun off => [.host (.write off (BitVec.ofNat 32 v) strb)])

/-- The turn of a read line (R99). -/
def readTurns (t : Target) : Option (List Turn) := (targetOffset t).map (fun off => [.host (.read off)])

/-- `CMD <command>` is `WR CMD, <encoding of command>` (R99); an operand out of range is refused (R98). -/
def cmdTurns (c : AsmCommand) : Option (List Turn) :=
  (assemble c).bind (fun w => writeTurns (.reg .cmd) w.toNat 0b1111)

/-- One run of WAIT's loop (R100) in which the first `polls` STATUS reads come before the completing engine step and the last
one after it. How many there are is open (R190): DESIGN CHOICE, an argument, log 21. -/
def waitTurns (polls : Nat) : List Turn :=
  List.replicate polls (.host (.read 0x008)) ++ [.engineComplete, .host (.read 0x008)]

/-- `RUN <command>` is `CMD <command>` ; `WAIT` (R100). -/
def runTurns (polls : Nat) (c : AsmCommand) : Option (List Turn) := (cmdTurns c).map (fun ts => ts ++ waitTurns polls)

/-- The turns of a line, each WAIT in it polling `polls` times before completion (R99, R100). SETGEOM writes the number
R100 gives, (h << 16) OR w, whatever w and h are, as `writeTurns` writes any value (DESIGN CHOICE where it is 2^32 or more, log 22). -/
def lineTurns (polls : Nat) : HostLine → Option (List Turn)
  | .wr t v => writeTurns t v 0b1111
  | .wrStrb t v strb => writeTurns t v strb
  | .rd t => readTurns t
  | .cmd c => cmdTurns c
  | .wait => some (waitTurns polls)
  | .run c => runTurns polls c
  | .setgeom w h => writeTurns (.reg .geom) (h <<< 16 ||| w) 0b1111
  | .encode => do return (← runTurns polls .dither) ++ (← runTurns polls .pack)
  | .decode => runTurns polls .unpack
  | .clrdone => writeTurns (.reg .status) 0x00000002 0b1111
  | .clrerr => writeTurns (.reg .status) 0x00000004 0b1111
  | .srst => writeTurns (.reg .ctrl) 0x00000002 0b1111
  | .irqon => writeTurns (.reg .ctrl) 0x00000001 0b1111
  | .irqoff => writeTurns (.reg .ctrl) 0x00000000 0b1111

/-- The turns of a host program: its lines in order, or none where a line is refused. Where the engine steps fall between the lines
is open (R5, R190): here an engine turn stands inside WAIT alone, so that a command of a bare CMD line does not complete before the
next WAIT or the end of the turns (DESIGN CHOICE, log 23). Any other interleaving is another list of turns. -/
def programTurns (polls : Nat) (lines : List HostLine) : Option (List Turn) :=
  (lines.mapM (lineTurns polls)).map List.flatten

end Sys2Proof.Machine
end

