-- ==== Sys2Proof/Safety.lean ====
section
/-! DEFINITION. The terms claims are made in: the invariant of the block, what completing a command leaves, and the frames. -/

namespace Sys2Proof.Machine

/-- The addresses the memories store a byte at: PBUF bytes within PBUF_BYTES and the channel lanes 0 to 2 of RASTER words
within RASTER_WORDS (R39, R40, R66, R67). -/
def holdsByte (c : Config) (a : Nat) : Prop :=
  (∃ k, k < c.pbufBytes ∧ a = pbufAddr k) ∨ (∃ p lane, p < c.rasterWords ∧ lane < 3 ∧ a = rasterAddr p lane)

/-- The invariant of the block. -/
structure State.Inv (s : State) : Prop where
  /-- The parameters are legal and the palette distinct (R6, R111). -/
  cfg_wf : s.cfg.wf = true
  /-- The memory is in canonical form. -/
  mem_wf : Memory.wf s.mem
  /-- Every stored byte lies in RASTER or PBUF (R39, R40). -/
  mem_inside : ∀ cell ∈ s.mem, holdsByte s.cfg cell.1
  /-- While RUNNING, LASTCMD is the running word (R31), DONE = 0 (R186) and GEOM still is the latched geometry (R32, R180). -/
  running : ∀ w wl hl, s.phase = .running w wl hl →
    s.lastcmd = w ∧ s.done = false ∧ geomWidth s.geom = wl ∧ geomHeight s.geom = hl ∧ s.progress ≤ wordUnits w wl hl
  /-- While IDLE nothing of a command is left. -/
  idle : s.phase = .idle → s.progress = 0 ∧ s.disturbed = false
  /-- Codes 6 to 15 are never recorded (R201, U11). -/
  err_known : s.err.toNat ≤ 5
  /-- With no error recorded ERRINFO is 0 (R201). -/
  err_none : s.err = 0#4 → s.errinfo = 0#32
  /-- Both results are at most 24 bits wide: an index, a byte or a colour word (R116, R117, R151 to R153). -/
  results : s.result0.toNat < 2 ^ 24 ∧ s.result1.toNat < 2 ^ 24
  /-- Working values are in 0 .. MAXV (R130). -/
  work_bound : ∀ v ∈ s.work, v.r ≤ maxWork s.cfg ∧ v.g ≤ maxWork s.cfg ∧ v.b ≤ maxWork s.cfg
  /-- The MODEL's own: the memory's draw is an old one. -/
  draws : s.memDraw < s.draws

/-- What no command changes: the configuration, CTRL.IE, LASTCMD, GEOM, the last bus answer and the turns to come. -/
structure CommandKeeps (s t : State) : Prop where
  cfg : t.cfg = s.cfg
  ie : t.ie = s.ie
  lastcmd : t.lastcmd = s.lastcmd
  geom : t.geom = s.geom
  answer : t.answer = s.answer
  turns : t.turns = s.turns

/-- The completion of a command (R183): BUSY = 0, DONE = 1, IDLE, nothing of the command left, and what no command changes
is unchanged. -/
structure Completes (s t : State) : Prop where
  busy : t.busy = false
  done : t.done = true
  phase : t.phase = .idle
  progress : t.progress = 0
  disturbed : t.disturbed = false
  keeps : CommandKeeps s t

/-- STATUS.ERR and ERRINFO are unchanged. -/
def ErrorKept (s t : State) : Prop := t.err = s.err ∧ t.errinfo = s.errinfo

/-- The error record after an error `e` with information `info` (R209). -/
def ErrorRecorded (e : ErrCode) (info : Word) (s t : State) : Prop :=
  if s.err = 0#4 then t.err = errCode e ∧ t.errinfo = info else ErrorKept s t

/-- RESULT0 and RESULT1 are unchanged. -/
def ResultsKept (s t : State) : Prop := t.result0 = s.result0 ∧ t.result1 = s.result1

/-- All of memory reads as before. -/
def MemoryKept (s t : State) : Prop := ∀ a, t.readByte a = s.readByte a

/-- What a frame command does to memory beside its results. Every byte outside `touched` reads as before, where the host wrote no
memory while the command ran. Where it did, every byte of RASTER and PBUF is UNSPECIFIED (R246), of one new draw. -/
def MemoryKeptOutside (touched : Nat → Prop) (s t : State) : Prop :=
  (s.disturbed = false → ∀ a, ¬ touched a → t.readByte a = s.readByte a) ∧
  (s.disturbed = true → ∃ n, s.draws ≤ n ∧ n < t.draws ∧ ∀ a, t.readByte a = Config.freeByte n a)

/-- The addresses of RASTER[0 .. n - 1]. -/
def rasterTouched (n a : Nat) : Prop := ∃ p lane, p < n ∧ lane < 3 ∧ a = rasterAddr p lane

/-- The addresses of PBUF[0 .. n - 1]. -/
def pbufTouched (n a : Nat) : Prop := ∃ k, k < n ∧ a = pbufAddr k

/-- Everything a register-only command keeps beside the results and the error record: memory and WORK. -/
def StorageKept (s t : State) : Prop := MemoryKept s t ∧ t.work = s.work

/-- An aborted command that touched no memory (R202, R203, R205, R210): completed, the error recorded, all else unchanged. -/
def AbortsUntouched (e : ErrCode) (info : Word) (s t : State) : Prop :=
  Completes s t ∧ ErrorRecorded e info s t ∧ ResultsKept s t ∧ StorageKept s t

/-- A word is the packed word form {8'b0, r, g, b} of a triple (R9), read field by field. -/
def IsColourWord (w : Word) (t : Rgb) : Prop :=
  w.extractLsb' 24 8 = 0#8 ∧ w.extractLsb' 16 8 = t.r ∧ w.extractLsb' 8 8 = t.g ∧ w.extractLsb' 0 8 = t.b

/-- The index of a number 0 to 7. -/
def indexOf (n : Nat) : Index := BitVec.ofNat 3 n

/-- Byte j of a row of W pixels has no used nibble of 8 to 15 (R155): the low nibble is used only where 2j + 1 < W. -/
def GoodByte (W j : Nat) (x : Byte) : Prop := x.toNat / 16 < 8 ∧ (2 * j + 1 < W → x.toNat % 16 < 8)

/-- The must-be-zero bits of a word with a defined opcode (R95): those its row's mask covers, other than OP; for opcode 0x3
they depend on DUP. -/
def mustBeZeroMask (w : Word) : Word :=
  match (w.extractLsb' 28 4).toNat with
  | 1 => 0x0F000000
  | 2 => 0x0FFFFFF0
  | 3 => if w.getLsbD 6 then 0x0FFFFF87 else 0x0FFFFF80
  | 4 => 0x0FFFFF00
  | _ => 0x0FFFFFFF

/-- The frame commands (00_scope.md glossary). -/
def IsFrameCommand (i : Instr) : Prop := i = .dither ∨ i = .pack ∨ i = .unpack

/-- The transactions that get BUS_ERROR (R63, R64, R66, R67, R68, R207), by their offset as a number. -/
def GetsBusError (c : Config) : Transaction → Prop
  | .read off => off.toNat % 4 ≠ 0 ∨ (0x100000 ≤ off.toNat ∧ off.toNat < 0x200000 ∧ c.pbufBytes ≤ off.toNat - 0x100000) ∨
      (0x200000 ≤ off.toNat ∧ off.toNat < 0x400000 ∧ 4 * c.rasterWords ≤ off.toNat - 0x200000) ∨ 0x400000 ≤ off.toNat
  | .write off _ strb => off.toNat % 4 ≠ 0 ∨ (off.toNat < 0x40 ∧ strb ≠ 0b1111#4) ∨
      (0x100000 ≤ off.toNat ∧ off.toNat < 0x200000 ∧ c.pbufBytes ≤ off.toNat - 0x100000) ∨
      (0x200000 ≤ off.toNat ∧ off.toNat < 0x400000 ∧ 4 * c.rasterWords ≤ off.toNat - 0x200000) ∨ 0x400000 ≤ off.toNat

/-- The value pixel (x, y) has when it is processed, from its loaded value and the errors of the pixels before it: the four
shares in the order R136 lists, each clamped before the next. `errs` holds the error of pixel p at position p. -/
def receivedWork (c : Config) (W : Nat) (errs : List ErrorTriple) (x y : Nat) (v : WorkPixel) : WorkPixel :=
  let e (px py : Nat) : ErrorTriple := errs.getD (py * W + px) ⟨0, 0, 0⟩
  let v := if 0 < x ∧ 0 < y then accumulate c 1 (e (x - 1) (y - 1)) v else v
  let v := if 0 < y then accumulate c 5 (e x (y - 1)) v else v
  let v := if x + 1 < W ∧ 0 < y then accumulate c 3 (e (x + 1) (y - 1)) v else v
  if 0 < x then accumulate c 7 (e (x - 1) y) v else v

/-- The indices chosen and the errors left by a dither in which every pixel gathers the shares it receives (R136), instead of
every pixel spreading its own (R135). -/
def gatherFrame (c : Config) (W H : Nat) (px : List Rgb) : List (Index × ErrorTriple) :=
  (pixelOrder W H).foldl (fun g xy =>
    let v := receivedWork c W (g.map Prod.snd) xy.1 xy.2 (loadWork c (px.getD (xy.2 * W + xy.1) ⟨0, 0, 0⟩))
    let k := nearestW c v
    g ++ [(k, quantError c v k)]) []

/-- A turn that abandons a running command: the reset input, or a full-strobe CTRL write with SRST set (R240, R241). -/
def IsResetTurn : Turn → Prop
  | .hardReset => True
  | .host (.write off wdata strb) => off = 0x004#23 ∧ strb = 0b1111#4 ∧ wdata.getLsbD 1 = true
  | .host (.read _) => False
  | .engineWork => False
  | .engineComplete => False

/-- Every register at its value in the table of R240, the engine IDLE and irq 0. -/
structure AtResetValues (t : State) : Prop where
  ie : t.ie = false
  busy : t.busy = false
  done : t.done = false
  err : t.err = 0#4
  irq : t.irq = false
  lastcmd : t.lastcmd = 0#32
  geom : t.geom = 0#32
  result0 : t.result0 = 0#32
  result1 : t.result1 = 0#32
  errinfo : t.errinfo = 0#32
  phase : t.phase = .idle

/-- A word can be a step's next command: an engine step is due, at the end of the turns or at their head. -/
def EngineDue (s : State) (rest : List Turn) : Prop :=
  s.turns = .engineComplete :: rest ∨ (s.turns = [] ∧ rest = [])

end Sys2Proof.Machine
end

