-- ==== Sys2Proof/Certificates/Slice0/Obligations.lean ====
section
/-! DEFINITION. The statements for the provers. Each says which rule of spec/ it formalises; OBLIGATIONS.json lists them. -/

open Sys2Proof Sys2Proof.Machine

/-! ### Encoding (spec/30_encoding.md) -/

/-- R91, R93: decoding the word of a well-formed command gives the command back. -/
def Obligations.DecodeOfEncodeIsTheCommand : Prop :=
  ∀ i : Instr, i.wf = true → decode (encode i) = .command i

/-- R90, R96: a word that decodes to a command is that command's one word. -/
def Obligations.EncodeOfDecodeIsTheWord : Prop :=
  ∀ (w : Word) (i : Instr), decode w = .command i → encode i = w

/-- R93: a word is command X exactly when (w AND mask_X) = match_X, and no two rows match one word. -/
def Obligations.WordIsCommandExactlyWhenItsRowMatches : Prop :=
  (∀ (w : Word) (row : OpcodeRow), row ∈ opcodeRows →
    (matchesRow w row = true ↔ ∃ i, decode w = .command i ∧ opcodeRow i = row)) ∧
  (∀ (w : Word) (row row' : OpcodeRow), row ∈ opcodeRows → row' ∈ opcodeRows →
    matchesRow w row = true → matchesRow w row' = true → row = row')

/-- R94, R95: OP 0x8 to 0xF is ILLEGAL_OPCODE whatever the other bits, and a defined opcode with a must-be-zero bit set, and nothing else,
is RESERVED_FIELD. -/
def Obligations.ErrorWordsAreTheReservedOnes : Prop :=
  ∀ w : Word,
    (decode w = .error .illegalOpcode ↔ 0x80000000 ≤ w.toNat) ∧
    (decode w = .error .reservedField ↔ w.toNat < 0x80000000 ∧ w &&& mustBeZeroMask w ≠ 0#32)

/-- R98: what the assembler encodes each line to, and that it refuses an operand out of range. -/
def Obligations.AssemblerEncodesEachLine : Prop :=
  assemble .nop = some (encode .nop) ∧ assemble .dither = some (encode .dither) ∧
  assemble .pack = some (encode .pack) ∧ assemble .unpack = some (encode .unpack) ∧
  (∀ r g b : Byte, assemble (.quant r.toNat g.toNat b.toNat) = some (encode (.quant r g b)) ∧
    assemble (.quantWord (r.toNat * 65536 + g.toNat * 256 + b.toNat)) = some (encode (.quant r g b))) ∧
  (∀ i : Nibble, assemble (.lut i.toNat) = some (encode (.lut i))) ∧
  (∀ a b : Index, assemble (.pack2 a.toNat b.toNat) = some (encode (.pack2 a b))) ∧
  (∀ a : Index, assemble (.pack2Dup a.toNat) = some (encode (.pack2Dup a))) ∧
  (∀ x : Byte, assemble (.unpack1 x.toNat) = some (encode (.unpack1 x))) ∧
  (∀ w : Word, assemble (.raw w.toNat) = some w) ∧
  (∀ c : AsmCommand, c.wf = false → assemble c = none)

/-- Words written out from the tables of R91 and R98 decode to the commands they stand for. -/
def Obligations.WrittenOutWordsDecode : Prop :=
  decode 0b0000_0000_0000_0000_0000_0000_0000_0000#32 = .command .nop ∧
  decode 0b0001_0000_1011_1111_0000_0001_1000_0000#32 = .command (.quant 0xBF 0x01 0x80) ∧
  decode 0b0010_0000_0000_0000_0000_0000_0000_1001#32 = .command (.lut 9) ∧
  decode 0b0011_0000_0000_0000_0000_0000_0001_1101#32 = .command (.pack2 3 5) ∧
  decode 0b0011_0000_0000_0000_0000_0000_0111_0000#32 = .command (.pack2Dup 6) ∧
  decode 0b0100_0000_0000_0000_0000_0000_0001_0100#32 = .command (.unpack1 0x14) ∧
  decode 0b0101_0000_0000_0000_0000_0000_0000_0000#32 = .command .dither

/-! ### Steps (spec/00_scope.md R5, spec/43_control.md) -/

/-- R182: while RUNNING a word that decodes to a command, an engine step due, the step is that command's meaning, on the state whose taken
turn is gone. That the turns are data of the state is the model's choice (log 1). -/
def Obligations.StepRunsTheDecodedCommand : Prop :=
  ∀ (s : State) (w : Word) (wl hl : BitVec 16) (i : Instr) (rest : List Turn),
    s.cfg.wf = true → s.phase = .running w wl hl → decode w = .command i → EngineDue s rest →
      step s = exec i { s with turns := rest }

/-- R202: every running word with w[31:28] ≥ 0x8 aborts with ILLEGAL_OPCODE, info = w, and changes nothing else. That the turns are data of
the state, and that the engine completes when none is left, is the model's choice (log 1). -/
def Obligations.IllegalOpcodeWordAborts : Prop :=
  ∀ (s : State) (w : Word) (wl hl : BitVec 16) (rest : List Turn),
    s.cfg.wf = true → s.phase = .running w wl hl → EngineDue s rest → 8 ≤ (w.extractLsb' 28 4).toNat →
      ∃ t, step s = .next t ∧ AbortsUntouched .illegalOpcode w { s with turns := rest } t

/-- R203: every running word with a defined opcode and a nonzero must-be-zero bit aborts with RESERVED_FIELD, info = w, and changes nothing
else. That the turns are data of the state, and that the engine completes when none is left, is the model's choice (log 1). -/
def Obligations.ReservedFieldWordAborts : Prop :=
  ∀ (s : State) (w : Word) (wl hl : BitVec 16) (rest : List Turn),
    s.cfg.wf = true → s.phase = .running w wl hl → EngineDue s rest → (w.extractLsb' 28 4).toNat < 8 →
    w &&& mustBeZeroMask w ≠ 0#32 →
      ∃ t, step s = .next t ∧ AbortsUntouched .reservedField w { s with turns := rest } t

/-- R185: the engine takes no step while IDLE. Where an engine turn is due, only that turn goes (the model's own record, log 1). -/
def Obligations.IdleEngineTakesNoStep : Prop :=
  ∀ (s : State) (rest : List Turn), s.cfg.wf = true → s.phase = .idle →
    (EngineDue s rest ∨ s.turns = .engineWork :: rest) → step s = .next { s with turns := rest }

/-- R5, R60: a host turn is one whole transaction, a reset turn one hardware reset, and an engine step before the completing one changes
nothing but the hidden progress position (R42, R190). The turns and when an engine step completes are the model's (logs 1, 2). -/
def Obligations.StepTakesTheNextTurn : Prop :=
  ∀ (s : State) (rest : List Turn), s.cfg.wf = true →
    (∀ tx, s.turns = .host tx :: rest → step s = .next ({ s with turns := rest }.hostAccess tx)) ∧
    (s.turns = .hardReset :: rest → step s = .next { s with turns := rest }.hardReset) ∧
    (s.turns = .engineWork :: rest → ∃ n, step s = .next { s with turns := rest, progress := n })

/-- R111: a block with two equal palette entries, and no other whose parameters are in the ranges of R6, is refused; the default palette is
well-formed. -/
def Obligations.StepRefusesEqualPaletteEntries : Prop :=
  (∀ s : State, s.cfg.inRange = true →
    ((∃ i j : Index, i ≠ j ∧ paletteColour s.cfg i = paletteColour s.cfg j) ↔ step s = .refused .paletteNotDistinct)) ∧
  Config.default.wf = true

/-- R200, R212: a block inside the spec (R6, R111; log 13) never stops. -/
def Obligations.WellFormedBlockNeverStops : Prop :=
  ∀ s : State, s.cfg.wf = true → ∃ t, step s = .next t

/-- The invariant of the block is kept by every step, from every state that has it: what the spec says always holds (R6, R25, R31, R39, R40,
R42, R111, R130, R186, R201), and the model's own canonical memory, progress bound and draws (logs 2, 5, 16). -/
def Obligations.EveryStepKeepsTheInvariant : Prop :=
  ∀ s t : State, s.Inv → step s = .next t → t.Inv

/-- The invariant holds right after reset (R240; the model's own fields as logs 1, 2, 5, 7, 10 and 11 give them). -/
def Obligations.ResetMeetsTheInvariant : Prop := State.reset.Inv

/-- R21, R36: no reset, command or write changes CAPS or the palette registers. -/
def Obligations.EveryStepKeepsTheConstants : Prop :=
  ∀ s t : State, step s = .next t → t.cfg = s.cfg ∧ t.readReg .caps = s.readReg .caps ∧
    ∀ i, t.readReg (.pal i) = s.readReg (.pal i)

/-- R190: every running command completes after a finite number of steps, at most one more than the turns still to come, unless a reset
comes first. That the engine moves when no turn is left is the model's form of R190's weak fairness (log 1). -/
def Obligations.RunningCommandCompletes : Prop :=
  ∀ s : State, s.cfg.wf = true → s.busy = true → (∀ turn ∈ s.turns, ¬ IsResetTurn turn) →
    ∃ m t, m ≤ s.turns.length + 1 ∧ Sys2Proof.core.run m s = .next t ∧ t.busy = false ∧ t.done = true

/-- R26, R213: DONE, and so irq's cause, is set by nothing but the completion of a running command. That the completion is an engine step
due in the list of turns (EngineDue) is the model's choice (log 1). -/
def Obligations.OnlyCompletionSetsDone : Prop :=
  ∀ s t : State, step s = .next t → s.done = false → t.done = true →
    s.busy = true ∧ t.busy = false ∧ ∃ rest, EngineDue s rest

/-! ### Palette and quantizer (spec/40_quantizer.md) -/

/-- R112, R113: the distance dist8 is the exact squared distance, at most 195075; the index nearest8(t) is at the minimum distance, and every lower index
is strictly farther. R114: on every working value distW is the exact squared distance to the scaled entry, below 2^(2F+18) within 0 .. MAXV,
and nearestW(v) is the first index at its minimum. -/
def Obligations.NearestIsTheFirstMinimum : Prop :=
  (∀ (c : Config) (t : Rgb) (j : Index),
    (dist8 c t j : Int) = ((t.r.toNat : Int) - (paletteColour c j).r.toNat) ^ 2 +
      ((t.g.toNat : Int) - (paletteColour c j).g.toNat) ^ 2 + ((t.b.toNat : Int) - (paletteColour c j).b.toNat) ^ 2 ∧
    dist8 c t j ≤ 195075 ∧
    dist8 c t (nearest8 c t) ≤ dist8 c t j ∧ (j < nearest8 c t → dist8 c t (nearest8 c t) < dist8 c t j)) ∧
  (∀ (c : Config) (v : WorkPixel) (j : Index),
    (distW c v j : Int) = ((v.r : Int) - (paletteColour c j).r.toNat * 2 ^ c.fracBits) ^ 2 +
      ((v.g : Int) - (paletteColour c j).g.toNat * 2 ^ c.fracBits) ^ 2 +
      ((v.b : Int) - (paletteColour c j).b.toNat * 2 ^ c.fracBits) ^ 2 ∧
    (v.r ≤ maxWork c → v.g ≤ maxWork c → v.b ≤ maxWork c → distW c v j < 2 ^ (2 * c.fracBits + 18)) ∧
    distW c v (nearestW c v) ≤ distW c v j ∧ (j < nearestW c v → distW c v (nearestW c v) < distW c v j))

/-- R115: quantizing a palette colour returns its own index. -/
def Obligations.PaletteColourIsItsOwnNearest : Prop :=
  ∀ c : Config, c.paletteDistinct = true → ∀ i : Index, nearest8 c (paletteColour c i) = i

/-- R114: on a scaled RGB888 triple the working-value quantizer is nearest8, and distW is dist8 · 2^(2F). -/
def Obligations.WorkingQuantizerAgreesOnScaledColours : Prop :=
  ∀ (c : Config) (t : Rgb),
    (∀ i, distW c (loadWork c t) i = dist8 c t i * 2 ^ (2 * c.fracBits)) ∧ nearestW c (loadWork c t) = nearest8 c t

/-- R116: QUANT writes the first nearest index and its colour, completes, and changes nothing else. -/
def Obligations.QuantWritesNearestIndexAndColour : Prop :=
  ∀ (r g b : Byte) (s : State), ∃ (t : State) (k : Index), exec (.quant r g b) s = .next t ∧
    (∀ j, dist8 s.cfg ⟨r, g, b⟩ k ≤ dist8 s.cfg ⟨r, g, b⟩ j ∧
      (j < k → dist8 s.cfg ⟨r, g, b⟩ k < dist8 s.cfg ⟨r, g, b⟩ j)) ∧
    t.result0.toNat = k.toNat ∧ IsColourWord t.result1 (paletteColour s.cfg k) ∧
    Completes s t ∧ ErrorKept s t ∧ StorageKept s t

/-- R117: LUT of a nibble 0 to 7 writes that entry's colour and 0, completes, and changes nothing else. -/
def Obligations.LutReadsThePalette : Prop :=
  ∀ (idx : Nibble) (s : State), idx.toNat < 8 → ∃ t, exec (.lut idx) s = .next t ∧
    IsColourWord t.result0 (paletteColour s.cfg (indexOf idx.toNat)) ∧ t.result1 = 0#32 ∧
    Completes s t ∧ ErrorKept s t ∧ StorageKept s t

/-- R117, R153, R204: LUT of a nibble 8 to 15, and UNPACK1 of a byte with such a nibble, abort with BAD_INDEX, info = LASTCMD, and change
nothing else. -/
def Obligations.InvalidNibbleAbortsElementCommand : Prop :=
  (∀ (idx : Nibble) (s : State), 8 ≤ idx.toNat →
    ∃ t, exec (.lut idx) s = .next t ∧ AbortsUntouched .badIndex s.lastcmd s t) ∧
  (∀ (x : Byte) (s : State), (8 ≤ x.toNat / 16 ∨ 8 ≤ x.toNat % 16) →
    ∃ t, exec (.unpack1 x) s = .next t ∧ AbortsUntouched .badIndex s.lastcmd s t)

/-! ### Nibble packer (spec/42_nibble.md) -/

/-- R151: PACK2 writes (a << 4) OR b and 0, completes, and changes nothing else. -/
def Obligations.Pack2WritesThePackedByte : Prop :=
  ∀ (a b : Index) (s : State), ∃ t, exec (.pack2 a b) s = .next t ∧
    t.result0.toNat = 16 * a.toNat + b.toNat ∧ t.result1 = 0#32 ∧ Completes s t ∧ ErrorKept s t ∧ StorageKept s t

/-- R152: PACK2.DUP a writes (a << 4) OR a and 0, completes, changes nothing else, and equals PACK2 a, a. -/
def Obligations.Pack2DupDuplicatesTheIndex : Prop :=
  ∀ (a : Index) (s : State), exec (.pack2Dup a) s = exec (.pack2 a a) s ∧ ∃ t, exec (.pack2Dup a) s = .next t ∧
    t.result0.toNat = 17 * a.toNat ∧ t.result1 = 0#32 ∧ Completes s t ∧ ErrorKept s t ∧ StorageKept s t

/-- R153: UNPACK1 of a byte with both nibbles 0 to 7 writes the two colours, high nibble first, completes, and changes nothing else. -/
def Obligations.Unpack1WritesBothColours : Prop :=
  ∀ (x : Byte) (s : State), x.toNat / 16 < 8 → x.toNat % 16 < 8 → ∃ t, exec (.unpack1 x) s = .next t ∧
    IsColourWord t.result0 (paletteColour s.cfg (indexOf (x.toNat / 16))) ∧
    IsColourWord t.result1 (paletteColour s.cfg (indexOf (x.toNat % 16))) ∧
    Completes s t ∧ ErrorKept s t ∧ StorageKept s t

/-- R184: NOP completes and changes nothing else. -/
def Obligations.NopOnlyCompletes : Prop :=
  ∀ s : State, ∃ t, exec .nop s = .next t ∧ Completes s t ∧ ErrorKept s t ∧ ResultsKept s t ∧ StorageKept s t

/-- R154: PACK under a legal geometry writes every byte of the encoded buffer, y·BPR + j, from the nearest indices of pixels (2j, y) and (2j
+ 1, y), the latter the duplicate where the row ends; it completes and changes nothing else. Where the host wrote a memory while it ran,
both memories are UNSPECIFIED (R246, log 7). -/
def Obligations.PackWritesTheEncodedBuffer : Prop :=
  ∀ (s : State) (w : Word) (wl hl : BitVec 16), s.phase = .running w wl hl → geometryOk s.cfg wl hl = true →
    ∃ t, exec .pack s = .next t ∧
      (s.disturbed = false → ∀ y j, y < hl.toNat → j < bytesPerRow wl.toNat →
        (t.pbufByte (y * bytesPerRow wl.toNat + j)).toNat =
          16 * (nearest8 s.cfg (s.rasterPixel (y * wl.toNat + 2 * j))).toNat +
          (nearest8 s.cfg (s.rasterPixel (y * wl.toNat + if 2 * j + 1 < wl.toNat then 2 * j + 1 else 2 * j))).toNat) ∧
      Completes s t ∧ ErrorKept s t ∧ ResultsKept s t ∧ t.work = s.work ∧
      MemoryKeptOutside (pbufTouched (bufferLength wl.toNat hl.toNat)) s t

/-- R155: UNPACK under a legal geometry, with no used nibble of 8 to 15, writes every pixel of the raster; it completes and changes nothing
else. Where the host wrote a memory while it ran, both memories are UNSPECIFIED (R246, log 7). That UNPACK then still decides from the bytes
PBUF has, so that a buffer of free bytes with good nibbles completes, is the model's (log 9). -/
def Obligations.UnpackWritesTheRaster : Prop :=
  ∀ (s : State) (w : Word) (wl hl : BitVec 16), s.phase = .running w wl hl → geometryOk s.cfg wl hl = true →
    (∀ y j, y < hl.toNat → j < bytesPerRow wl.toNat →
      GoodByte wl.toNat j (s.pbufByte (y * bytesPerRow wl.toNat + j))) →
    ∃ t, exec .unpack s = .next t ∧
      (s.disturbed = false → ∀ x y, x < wl.toNat → y < hl.toNat →
        t.rasterPixel (y * wl.toNat + x) = paletteColour s.cfg (indexOf
          (if x % 2 = 0 then (s.pbufByte (y * bytesPerRow wl.toNat + x / 2)).toNat / 16
           else (s.pbufByte (y * bytesPerRow wl.toNat + x / 2)).toNat % 16))) ∧
      Completes s t ∧ ErrorKept s t ∧ ResultsKept s t ∧ t.work = s.work ∧
      MemoryKeptOutside (rasterTouched (wl.toNat * hl.toNat)) s t

/-- R155, R204, R210: UNPACK aborts at the first byte k with a bad used nibble: BAD_INDEX with info k, RASTER[0 .. W·H - 1] drawn anew (log
6), nothing else changed; both memories are UNSPECIFIED where the host wrote one while it ran (R246, log 7). That the byte index is then
decided from the free bytes PBUF has is the model's (log 9). -/
def Obligations.UnpackAbortsAtTheFirstBadByte : Prop :=
  ∀ (s : State) (w : Word) (wl hl : BitVec 16) (y j : Nat), s.phase = .running w wl hl → geometryOk s.cfg wl hl = true →
    y < hl.toNat → j < bytesPerRow wl.toNat →
    ¬ GoodByte wl.toNat j (s.pbufByte (y * bytesPerRow wl.toNat + j)) →
    (∀ y' j', y' < hl.toNat → j' < bytesPerRow wl.toNat →
      y' * bytesPerRow wl.toNat + j' < y * bytesPerRow wl.toNat + j →
      GoodByte wl.toNat j' (s.pbufByte (y' * bytesPerRow wl.toNat + j'))) →
    ∃ t, exec .unpack s = .next t ∧
      ErrorRecorded .badIndex (BitVec.ofNat 32 (y * bytesPerRow wl.toNat + j)) s t ∧
      (s.disturbed = false → ∀ p, p < wl.toNat * hl.toNat → t.rasterPixel p = drawnPixel s.draws p) ∧
      Completes s t ∧ ResultsKept s t ∧ t.work = s.work ∧
      MemoryKeptOutside (rasterTouched (wl.toNat * hl.toNat)) s t

/-- R205: DITHER, PACK and UNPACK under any other geometry abort with BAD_GEOMETRY, info = {Hl, Wl}, before any memory access. -/
def Obligations.IllegalGeometryAbortsFrameCommand : Prop :=
  ∀ (s : State) (w : Word) (wl hl : BitVec 16) (i : Instr), s.phase = .running w wl hl → IsFrameCommand i →
    ¬ (1 ≤ wl.toNat ∧ wl.toNat ≤ s.cfg.maxW ∧ 1 ≤ hl.toNat ∧ hl.toNat ≤ s.cfg.maxH) →
    ∃ t info, exec i s = .next t ∧ info.toNat = hl.toNat * 65536 + wl.toNat ∧ AbortsUntouched .badGeometry info s t

/-- R156 (a): UNPACK after PACK, under one geometry and with no host access in between, leaves an all-palette raster unchanged. -/
def Obligations.UnpackAfterPackRestoresTheRaster : Prop :=
  ∀ (s t u : State) (w : Word) (wl hl : BitVec 16), s.cfg.wf = true → s.phase = .running w wl hl → s.disturbed = false →
    geometryOk s.cfg wl hl = true → geomWidth s.geom = wl → geomHeight s.geom = hl →
    (∀ p, p < wl.toNat * hl.toNat → ∃ k, s.rasterPixel p = paletteColour s.cfg k) →
    exec .pack s = .next t → exec .unpack (t.accept (encode .unpack)) = .next u →
    u.err = t.err ∧ ∀ p, u.rasterPixel p = s.rasterPixel p

/-- R156 (b): PACK after a successful UNPACK restores PBUF, but that with an odd width the low nibble of each row's last byte becomes a copy
of its high nibble. -/
def Obligations.PackAfterUnpackRestoresTheBuffer : Prop :=
  ∀ (s t u : State) (w : Word) (wl hl : BitVec 16), s.cfg.wf = true → s.phase = .running w wl hl → s.disturbed = false →
    geometryOk s.cfg wl hl = true → geomWidth s.geom = wl → geomHeight s.geom = hl →
    (∀ y j, y < hl.toNat → j < bytesPerRow wl.toNat →
      GoodByte wl.toNat j (s.pbufByte (y * bytesPerRow wl.toNat + j))) →
    exec .unpack s = .next t → exec .pack (t.accept (encode .pack)) = .next u →
    (∀ y j, y < hl.toNat → j < bytesPerRow wl.toNat →
      (u.pbufByte (y * bytesPerRow wl.toNat + j)).toNat =
        if 2 * j + 1 < wl.toNat then (s.pbufByte (y * bytesPerRow wl.toNat + j)).toNat
        else 17 * ((s.pbufByte (y * bytesPerRow wl.toNat + j)).toNat / 16)) ∧
    ∀ k, bufferLength wl.toNat hl.toNat ≤ k → k < s.cfg.pbufBytes → u.pbufByte k = s.pbufByte k

/-! ### Dither engine (spec/41_dither.md) -/

/-- R134: a share is e·w/16 rounded to nearest, halves away from zero; it is odd-symmetric; the four shares of one error miss e by at most
2, and 8 is missed by 2; and the rule's examples at F = 4. -/
def Obligations.ShareRoundsHalvesAwayFromZero : Prop :=
  (∀ (e : Int) (w : Nat), w ∈ [7, 3, 5, 1] →
    (0 ≤ e → -8 < 16 * share e w - e * w ∧ 16 * share e w - e * w ≤ 8) ∧ share (-e) w = -share e w) ∧
  (∀ w, share 0 w = 0) ∧
  (∀ e : Int, share e 7 + share e 3 + share e 5 + share e 1 - e ≤ 2 ∧
    -2 ≤ share e 7 + share e 3 + share e 5 + share e 1 - e) ∧
  share 8 7 + share 8 3 + share 8 5 + share 8 1 = 10 ∧
  share 976 7 = 427 ∧ share (-160) 7 = -70 ∧ share 8 1 = 1 ∧ share (-8) 1 = -1 ∧ share 7 1 = 0

/-- R130, R136: every working value a dither leaves is in 0 .. MAXV, and WORK keeps one value a pixel. -/
def Obligations.DitherKeepsWorkingValuesInRange : Prop :=
  ∀ (c : Config) (W H : Nat) (px : List Rgb), px.length = W * H →
    (ditherFrame c W H px).work.length = W * H ∧
    ∀ v ∈ (ditherFrame c W H px).work, v.r ≤ maxWork c ∧ v.g ≤ maxWork c ∧ v.b ≤ maxWork c

/-- R138: DITHER under a legal geometry writes the dithered frame over RASTER[0 .. W·H - 1], completes, and changes nothing else but WORK.
Where the host wrote a memory while it ran, both memories are UNSPECIFIED (R246, log 7). What WORK holds after completion is the model's
choice: the spec leaves it UNSPECIFIED outside a running DITHER (R41, log 10). -/
def Obligations.DitherWritesTheDitheredFrame : Prop :=
  ∀ (s : State) (w : Word) (wl hl : BitVec 16), s.phase = .running w wl hl → geometryOk s.cfg wl hl = true →
    ∃ t, exec .dither s = .next t ∧
      (s.disturbed = false → ∀ p, p < wl.toNat * hl.toNat → some (t.rasterPixel p) =
        (ditherFrame s.cfg wl.toNat hl.toNat (s.readRaster (wl.toNat * hl.toNat))).out[p]?) ∧
      t.work = (ditherFrame s.cfg wl.toNat hl.toNat (s.readRaster (wl.toNat * hl.toNat))).work ∧
      Completes s t ∧ ErrorKept s t ∧ ResultsKept s t ∧
      MemoryKeptOutside (rasterTouched (wl.toNat * hl.toNat)) s t

/-- R137: after a DITHER during which the host wrote no memory (R246), every pixel is a palette colour, and the quantizer that PACK runs
returns that colour's index. -/
def Obligations.DitherLeavesAPaletteRaster : Prop :=
  ∀ (s : State) (w : Word) (wl hl : BitVec 16), s.cfg.paletteDistinct = true → s.phase = .running w wl hl →
    s.disturbed = false → geometryOk s.cfg wl hl = true →
    ∃ t, exec .dither s = .next t ∧ ∀ p, p < wl.toNat * hl.toNat →
      ∃ k, t.rasterPixel p = paletteColour s.cfg k ∧ nearest8 t.cfg (t.rasterPixel p) = k

/-- R140: with no host write to memory meanwhile (R246), DITHER leaves an all-palette raster, and WORK, unchanged; DITHER after DITHER under
one geometry equals one DITHER; and PACK after DITHER of a raster uniformly of palette entry i gives bytes with i in both nibbles
throughout. What WORK holds after completion is the model's choice: the spec leaves it UNSPECIFIED outside a running DITHER (R41, log 10).
-/
def Obligations.DitherLeavesAPaletteRasterUnchanged : Prop :=
  ∀ (s : State) (w : Word) (wl hl : BitVec 16), s.cfg.paletteDistinct = true → s.phase = .running w wl hl →
    s.disturbed = false → geometryOk s.cfg wl hl = true →
    ((∀ p, p < wl.toNat * hl.toNat → ∃ k, s.rasterPixel p = paletteColour s.cfg k) →
      ∃ t, exec .dither s = .next t ∧ t.work = (s.readRaster (wl.toNat * hl.toNat)).map (loadWork s.cfg) ∧
        ∀ p, t.rasterPixel p = s.rasterPixel p) ∧
    (geomWidth s.geom = wl → geomHeight s.geom = hl →
      ∃ t u, exec .dither s = .next t ∧ exec .dither (t.accept (encode .dither)) = .next u ∧
        ∀ p, u.rasterPixel p = t.rasterPixel p) ∧
    (geomWidth s.geom = wl → geomHeight s.geom = hl →
      ∀ i, (∀ p, p < wl.toNat * hl.toNat → s.rasterPixel p = paletteColour s.cfg i) →
      ∃ t u, exec .dither s = .next t ∧ exec .pack (t.accept (encode .pack)) = .next u ∧
        ∀ k, k < bufferLength wl.toNat hl.toNat → (u.pbufByte k).toNat = 17 * i.toNat)

/-- R131, R132, R135, R136: spreading each pixel's error over its four neighbours, pixel by pixel in row-major order, gives the raster in
which each pixel gathers the shares it receives, in the order R136 lists. -/
def Obligations.DitherGathersSharesInTheStatedOrder : Prop :=
  ∀ (c : Config) (W H : Nat) (px : List Rgb), px.length = W * H →
    (ditherFrame c W H px).out = (gatherFrame c W H px).map (fun ke => paletteColour c ke.1)

/-- R156 (e): with no error held and no host write to memory meanwhile, what DITHER, PACK and UNPACK compute depends on RASTER, PBUF, the
latched geometry and the parameters alone. The invariant rules out a state with ERR = 0 and ERRINFO other than 0, which no run reaches
(R201, EveryStepKeepsTheInvariant). -/
def Obligations.FrameResultsDependOnMemoryAndGeometryAlone : Prop :=
  ∀ (s s' t t' : State) (w w' : Word) (wl hl : BitVec 16), s.Inv → s'.Inv → s.cfg = s'.cfg → s.phase = .running w wl hl →
    s'.phase = .running w' wl hl → s.disturbed = false → s'.disturbed = false → s.err = 0#4 → s'.err = 0#4 →
    ((∀ p, p < wl.toNat * hl.toNat → s.rasterPixel p = s'.rasterPixel p) →
      exec .dither s = .next t → exec .dither s' = .next t' →
      t.err = t'.err ∧ ∀ p, p < wl.toNat * hl.toNat → t.rasterPixel p = t'.rasterPixel p) ∧
    ((∀ p, p < wl.toNat * hl.toNat → s.rasterPixel p = s'.rasterPixel p) →
      exec .pack s = .next t → exec .pack s' = .next t' →
      t.err = t'.err ∧ (t.err = 0#4 → ∀ k, k < bufferLength wl.toNat hl.toNat → t.pbufByte k = t'.pbufByte k)) ∧
    ((∀ k, k < bufferLength wl.toNat hl.toNat → s.pbufByte k = s'.pbufByte k) →
      exec .unpack s = .next t → exec .unpack s' = .next t' →
      t.err = t'.err ∧ t.errinfo = t'.errinfo ∧
      (t.err = 0#4 → ∀ p, p < wl.toNat * hl.toNat → t.rasterPixel p = t'.rasterPixel p))

/-! ### Errors (spec/60_exceptions.md) -/

/-- R209: recording keeps the first error: ERR and ERRINFO are written only where ERR = 0, and nothing else changes; and raising records and
then ends the command (R210). -/
def Obligations.FirstErrorIsKept : Prop :=
  ∀ (s : State) (e : ErrCode) (info : Word),
    (s.err = 0#4 → s.record e info = { s with err := errCode e, errinfo := info }) ∧
    (s.err ≠ 0#4 → s.record e info = s) ∧ AbortsUntouched e info s (s.raise e info)

/-- R212: an error raised while STATUS.ERR ≠ 0 aborts its command, sets DONE and is not recorded, and the next CMD write is accepted. -/
def Obligations.NestedErrorAbortsUnrecorded : Prop :=
  ∀ (s : State) (e : ErrCode) (info next : Word), s.err ≠ 0#4 →
    Completes s (s.raise e info) ∧ ErrorKept s (s.raise e info) ∧ ResultsKept s (s.raise e info) ∧
    ((s.raise e info).hostAccess (.write 0x00C next 0b1111)).phase =
      .running next (geomWidth s.geom) (geomHeight s.geom) ∧
    ((s.raise e info).hostAccess (.write 0x00C next 0b1111)).lastcmd = next

/-! ### Host transactions (spec/10_state.md, spec/20_memory.md, spec/43_control.md) -/

/-- R180: a full-strobe CMD write while BUSY = 0 is accepted: LASTCMD, DONE, BUSY and the latched command and geometry; the response is OK
and no other state of the block changes. The model's own record: progress 0 (log 2), disturbed false (log 7) and the answer (log 11). -/
def Obligations.IdleCmdWriteIsAccepted : Prop :=
  ∀ (s : State) (w : Word), s.busy = false →
    s.hostAccess (.write 0x00C w 0b1111) =
      { s with lastcmd := w, done := false, phase := .running w (s.geom.extractLsb' 0 16) (s.geom.extractLsb' 16 16),
               progress := 0, disturbed := false, answer := some (.write .ok) } ∧
    (s.hostAccess (.write 0x00C w 0b1111)).busy = true

/-- R181: a full-strobe CMD write while BUSY = 1 only records CMD_WHILE_BUSY with info = w, where ERR = 0; the response is OK. -/
def Obligations.BusyCmdWriteIsRejected : Prop :=
  ∀ (s : State) (w : Word), s.busy = true →
    s.hostAccess (.write 0x00C w 0b1111) =
      if s.err = 0#4 then { s with err := 5, errinfo := w, answer := some (.write .ok) }
      else { s with answer := some (.write .ok) }

/-- R22, R24: a CTRL write with wdata[1] = 0 sets CTRL.IE to wdata[0] in every phase and changes nothing else; CTRL reads {0, IE}. -/
def Obligations.CtrlWriteSetsInterruptEnable : Prop :=
  ∀ (s : State) (w : Word), w.getLsbD 1 = false →
    s.hostAccess (.write 0x004 w 0b1111) = { s with ie := w.getLsbD 0, answer := some (.write .ok) } ∧
    (s.hostAccess (.read 0x004)).answer = some (.read (if s.ie then 1 else 0) .ok)

/-- R26, R27, R211: a STATUS write clears DONE where wdata[1] = 1, and ERR and ERRINFO where wdata[2] = 1, and changes nothing else. -/
def Obligations.StatusWriteClearsDoneAndError : Prop :=
  ∀ (s : State) (w : Word), s.hostAccess (.write 0x008 w 0b1111) =
    { s with done := s.done && !w.getLsbD 1, err := if w.getLsbD 2 then 0 else s.err,
             errinfo := if w.getLsbD 2 then 0 else s.errinfo, answer := some (.write .ok) }

/-- R30: the STATUS word read, bit by bit; STATUS.IRQ is the irq output, CTRL.IE AND STATUS.DONE (R28, R43); and a STATUS write of two words
that agree in bits 1 and 2 has one effect, whatever the reserved and read-only bits are. -/
def Obligations.StatusReadsItsFlags : Prop :=
  ∀ s : State, ∃ v : Word, (s.hostAccess (.read 0x008)).answer = some (.read v .ok) ∧
    v.getLsbD 0 = s.busy ∧ v.getLsbD 1 = s.done ∧ v.getLsbD 2 = false ∧ v.getLsbD 3 = (s.ie && s.done) ∧
    s.irq = (s.ie && s.done) ∧ v.extractLsb' 4 4 = 0#4 ∧ v.extractLsb' 8 4 = s.err ∧ v.extractLsb' 12 20 = 0#20 ∧
    ∀ w w' : Word, w.getLsbD 1 = w'.getLsbD 1 → w.getLsbD 2 = w'.getLsbD 2 →
      s.hostAccess (.write 0x008 w 0b1111) = s.hostAccess (.write 0x008 w' 0b1111)

/-- R32, R247: a GEOM write stores any word while BUSY = 0 and is ignored while BUSY = 1; GEOM reads what it holds. -/
def Obligations.GeomWriteIsIgnoredWhileBusy : Prop :=
  ∀ (s : State) (w : Word),
    s.hostAccess (.write 0x010 w 0b1111) =
      { s with geom := if s.busy then s.geom else w, answer := some (.write .ok) } ∧
    (s.hostAccess (.read 0x010)).answer = some (.read s.geom .ok)

/-- R20, R21, R31, R33 to R36: what the other registers read as (CAPS its four fields, for parameters in range, and 0x141E0320 with the
defaults), and that a full-strobe write to a read-only one is ignored with OK. -/
def Obligations.ReadOnlyRegistersReadAndIgnoreWrites : Prop :=
  ∀ (s : State) (w : Word),
    (s.hostAccess (.read 0x00C)).answer = some (.read s.lastcmd .ok) ∧
    (s.hostAccess (.read 0x014)).answer = some (.read s.result0 .ok) ∧
    (s.hostAccess (.read 0x018)).answer = some (.read s.result1 .ok) ∧
    (s.hostAccess (.read 0x01C)).answer = some (.read s.errinfo .ok) ∧
    (s.cfg.inRange = true → ∃ v, (s.hostAccess (.read 0x000)).answer = some (.read v .ok) ∧
      (v.extractLsb' 0 12).toNat = s.cfg.maxW ∧ (v.extractLsb' 12 12).toNat = s.cfg.maxH ∧
      (v.extractLsb' 24 4).toNat = s.cfg.fracBits ∧ v.extractLsb' 28 4 = 1#4) ∧
    (s.cfg = Config.default → (s.hostAccess (.read 0x000)).answer = some (.read 0x141E0320 .ok)) ∧
    (∀ i : Index, ∃ v, (s.hostAccess (.read (BitVec.ofNat 23 (0x020 + 4 * i.toNat)))).answer = some (.read v .ok) ∧
      IsColourWord v (paletteColour s.cfg i)) ∧
    (∀ off ∈ [0x000, 0x014, 0x018, 0x01C, 0x020, 0x024, 0x028, 0x02C, 0x030, 0x034, 0x038, 0x03C],
      s.hostAccess (.write (BitVec.ofNat 23 off) w 0b1111) = { s with answer := some (.write .ok) })

/-- R207: exactly the misaligned, partially strobed, past-capacity and unmapped transactions get BUS_ERROR, with rdata 0 and no effect on
any state; every other transaction gets OK. -/
def Obligations.BusErrorExactlyWhereStatedAndWithoutEffect : Prop :=
  ∀ (s : State) (tx : Transaction),
    (GetsBusError s.cfg tx → s.hostAccess tx = { s with answer := some (match tx with
      | .read _ => .read 0 .busError
      | .write _ _ _ => .write .busError) }) ∧
    (¬ GetsBusError s.cfg tx → (∃ v, (s.hostAccess tx).answer = some (.read v .ok)) ∨
      (s.hostAccess tx).answer = some (.write .ok))

/-- R65: reserved register space reads 0 with OK, and a write of any strobe is ignored with OK. -/
def Obligations.ReservedSpaceReadsZeroIgnoresWrites : Prop :=
  ∀ (s : State) (off : Offset) (w : Word) (strb : BitVec 4), off.toNat % 4 = 0 → 0x40 ≤ off.toNat → off.toNat < 0x100000 →
    s.hostAccess (.read off) = { s with answer := some (.read 0 .ok) } ∧
    s.hostAccess (.write off w strb) = { s with answer := some (.write .ok) }

/-- R66, R69: while BUSY = 0 a PBUF word write stores the strobed lanes, lane i at byte 4j + i, and changes nothing else; a PBUF word read
has byte 4j + i in lane i, and 0 in a lane past PBUF_BYTES. -/
def Obligations.PbufWordsAreLittleEndian : Prop :=
  ∀ (s : State) (j : Nat) (w : Word) (strb : BitVec 4), s.cfg.wf = true → s.busy = false → 4 * j < s.cfg.pbufBytes →
    ∃ t v, s.hostAccess (.write (BitVec.ofNat 23 (0x100000 + 4 * j)) w strb) = t ∧
      s.hostAccess (.read (BitVec.ofNat 23 (0x100000 + 4 * j))) = { s with answer := some (.read v .ok) } ∧
      { t with mem := s.mem } = { s with answer := some (.write .ok) } ∧
      (∀ i < 4, strb.getLsbD i = true → 4 * j + i < s.cfg.pbufBytes → t.pbufByte (4 * j + i) = w.extractLsb' (8 * i) 8) ∧
      (∀ a, (∀ i < 4, strb.getLsbD i = true → 4 * j + i < s.cfg.pbufBytes → a ≠ pbufAddr (4 * j + i)) →
        t.readByte a = s.readByte a) ∧
      (∀ i < 4, v.extractLsb' (8 * i) 8 = if 4 * j + i < s.cfg.pbufBytes then s.pbufByte (4 * j + i) else 0#8)

/-- R67: while BUSY = 0 a RASTER word write stores the strobed channels r, g, b of lanes 2, 1, 0, whatever lane 3 is, and changes nothing
else; a RASTER word read is {8'b0, r, g, b}. -/
def Obligations.RasterWordsHoldTheirChannels : Prop :=
  ∀ (s : State) (p : Nat) (w : Word) (strb : BitVec 4), s.cfg.wf = true → s.busy = false → p < s.cfg.rasterWords →
    ∃ t v, s.hostAccess (.write (BitVec.ofNat 23 (0x200000 + 4 * p)) w strb) = t ∧
      s.hostAccess (.read (BitVec.ofNat 23 (0x200000 + 4 * p))) = { s with answer := some (.read v .ok) } ∧
      { t with mem := s.mem } = { s with answer := some (.write .ok) } ∧
      t.rasterPixel p = ⟨if strb.getLsbD 2 then w.extractLsb' 16 8 else (s.rasterPixel p).r,
        if strb.getLsbD 1 then w.extractLsb' 8 8 else (s.rasterPixel p).g,
        if strb.getLsbD 0 then w.extractLsb' 0 8 else (s.rasterPixel p).b⟩ ∧
      (∀ a, (∀ lane < 3, strb.getLsbD lane = true → a ≠ rasterAddr p lane) → t.readByte a = s.readByte a) ∧
      IsColourWord v (s.rasterPixel p)

/-- R73: a read changes no state of the block (only the model's record of the answer and its count of free values), and while BUSY = 0, or
outside the two memory windows, reading twice returns the same answer. -/
def Obligations.ReadsHaveNoSideEffect : Prop :=
  ∀ (s : State) (off : Offset),
    s.hostAccess (.read off) =
      { s with answer := (s.hostAccess (.read off)).answer, draws := (s.hostAccess (.read off)).draws } ∧
    (s.busy = false ∨ off.toNat < 0x100000 ∨ 0x400000 ≤ off.toNat →
      (s.hostAccess (.read off)).draws = s.draws ∧
      ((s.hostAccess (.read off)).hostAccess (.read off)).answer = (s.hostAccess (.read off)).answer)

/-- R246: while BUSY = 1 a host read within RASTER or PBUF returns a free value with OK; a host write there makes every byte of both
memories UNSPECIFIED, of a new draw, and marks the running command's memory results so; the command keeps running and the response is OK.
The draws are the model's (logs 7, 8). -/
def Obligations.BusyMemoryAccessIsUnspecified : Prop :=
  ∀ (s : State) (off : Offset) (w : Word) (strb : BitVec 4), s.busy = true → off.toNat % 4 = 0 →
    ((0x100000 ≤ off.toNat ∧ off.toNat < 0x200000 ∧ off.toNat - 0x100000 < s.cfg.pbufBytes) ∨
     (0x200000 ≤ off.toNat ∧ off.toNat < 0x400000 ∧ off.toNat - 0x200000 < 4 * s.cfg.rasterWords)) →
    s.hostAccess (.read off) =
      { s with answer := some (.read (Config.freeWord s.draws) .ok), draws := s.draws + 1 } ∧
    ∃ t, s.hostAccess (.write off w strb) = t ∧
      { t with mem := s.mem, memDraw := s.memDraw, draws := s.draws } =
        { s with disturbed := true, answer := some (.write .ok) } ∧
      ∀ a, t.readByte a = Config.freeByte s.draws a

/-! ### Resets (spec/70_reset_and_hazards.md) -/

/-- R240: a hardware reset, and State.reset, set every register to its value and the engine to IDLE; a hardware reset makes every byte of
RASTER and PBUF UNSPECIFIED, of a new draw (logs 4, 5), and keeps the constants. That the reset input is a turn (log 1), and that the turns
to come stand (log 20), is the model's choice. -/
def Obligations.HardResetSetsTheResetTable : Prop :=
  (∀ (s : State) (rest : List Turn), s.cfg.wf = true → s.turns = .hardReset :: rest →
    ∃ t, step s = .next t ∧ AtResetValues t ∧ t.cfg = s.cfg ∧ t.turns = rest ∧
      ∀ a, t.readByte a = Config.freeByte s.draws a) ∧
  AtResetValues State.reset ∧ State.reset.cfg = Config.default

/-- R23, R241: soft reset. Every register takes its reset value; a running DITHER or UNPACK leaves RASTER[0 .. Wl·Hl - 1], a running PACK
leaves PBUF[0 .. L(Wl,Hl) - 1] UNSPECIFIED, as far as the memory reaches; all other memory, and the constants, are kept; the response is OK.
How far an illegal geometry's range reaches is the model's choice (log 6). -/
def Obligations.SoftResetAbandonsTheCommand : Prop :=
  ∀ (s : State) (w : Word), w.getLsbD 1 = true →
    ∃ t, s.hostAccess (.write 0x004 w 0b1111) = t ∧ t.answer = some (.write .ok) ∧ t.cfg = s.cfg ∧
      AtResetValues t ∧
      (s.busy = false → ∀ a, t.readByte a = s.readByte a) ∧
      (∀ cmd wl hl, s.phase = .running cmd wl hl →
        ((decode cmd = .command .dither ∨ decode cmd = .command .unpack) →
          (∀ p, p < wl.toNat * hl.toNat → p < s.cfg.rasterWords → t.rasterPixel p = drawnPixel s.draws p) ∧
          ∀ a, ¬ rasterTouched (min (wl.toNat * hl.toNat) s.cfg.rasterWords) a → t.readByte a = s.readByte a) ∧
        (decode cmd = .command .pack →
          (∀ k, k < bufferLength wl.toNat hl.toNat → k < s.cfg.pbufBytes → t.pbufByte k = drawnByte s.draws k) ∧
          ∀ a, ¬ pbufTouched (min (bufferLength wl.toNat hl.toNat) s.cfg.pbufBytes) a → t.readByte a = s.readByte a) ∧
        ((∀ i, decode cmd = .command i → ¬ IsFrameCommand i) → ∀ a, t.readByte a = s.readByte a))

/-- R242: after either reset the next full-strobe CMD write is accepted; a frame command then aborts with BAD_GEOMETRY and info 0, and QUANT
of a palette colour works at once. -/
def Obligations.BlockWorksRightAfterReset : Prop :=
  ∀ (s u : State), s.cfg.wf = true → (u = s.hardReset ∨ u = s.softReset) →
    (∀ w, (u.hostAccess (.write 0x00C w 0b1111)).phase = .running w 0 0) ∧
    (∀ i, IsFrameCommand i → ∃ t, exec i (u.hostAccess (.write 0x00C (encode i) 0b1111)) = .next t ∧
      t.done = true ∧ t.err = 4#4 ∧ t.errinfo = 0#32 ∧ ∀ a, t.readByte a = u.readByte a) ∧
    (∀ i : Index, ∃ t, exec (.quant (paletteColour s.cfg i).r (paletteColour s.cfg i).g (paletteColour s.cfg i).b)
        (u.hostAccess (.write 0x00C (encode (.quant (paletteColour s.cfg i).r (paletteColour s.cfg i).g
          (paletteColour s.cfg i).b)) 0b1111)) = .next t ∧
      t.done = true ∧ t.err = 0#4 ∧ t.result0.toNat = i.toNat)

/-- R100: the turns of WAIT end, from every state, with a STATUS read that shows BUSY = 0; and RUN of any command or raw word is its
full-strobe CMD write followed by WAIT, and is refused where the assembler refuses the operand (R98). That the turns are data of the state
is the model's choice (log 1), and the number of polls before completion is its argument (log 21). -/
def Obligations.WaitEndsWithBusyZero : Prop :=
  (∀ (polls : Nat) (s : State), s.cfg.wf = true → s.turns = waitTurns polls →
    ∃ t v, Sys2Proof.core.run (polls + 2) s = .next t ∧ t.busy = false ∧ t.turns = [] ∧
      t.answer = some (.read v .ok) ∧ v.getLsbD 0 = false) ∧
  (∀ (polls : Nat) (c : AsmCommand) (w : Word), assemble c = some w →
    lineTurns polls (.run c) = some (.host (.write 0x00C w 0b1111) :: waitTurns polls)) ∧
  (∀ (polls : Nat) (c : AsmCommand), assemble c = none → lineTurns polls (.run c) = none)
end

