-- ==== Sys2Proof/Laws/State.lean ====
section
/-! SUPPORT. One lemma per field of State per update, so that no later proof unfolds a record update. -/

namespace Sys2Proof.Machine

variable (s : State)

/-! ### storeCells -/

@[simp] theorem State.storeCells_cfg (cells : List Host.Cell) : (s.storeCells cells).cfg = s.cfg := rfl
@[simp] theorem State.storeCells_ie (cells : List Host.Cell) : (s.storeCells cells).ie = s.ie := rfl
@[simp] theorem State.storeCells_done (cells : List Host.Cell) : (s.storeCells cells).done = s.done := rfl
@[simp] theorem State.storeCells_err (cells : List Host.Cell) : (s.storeCells cells).err = s.err := rfl
@[simp] theorem State.storeCells_errinfo (cells : List Host.Cell) : (s.storeCells cells).errinfo = s.errinfo := rfl
@[simp] theorem State.storeCells_lastcmd (cells : List Host.Cell) : (s.storeCells cells).lastcmd = s.lastcmd := rfl
@[simp] theorem State.storeCells_geom (cells : List Host.Cell) : (s.storeCells cells).geom = s.geom := rfl
@[simp] theorem State.storeCells_result0 (cells : List Host.Cell) : (s.storeCells cells).result0 = s.result0 := rfl
@[simp] theorem State.storeCells_result1 (cells : List Host.Cell) : (s.storeCells cells).result1 = s.result1 := rfl
@[simp] theorem State.storeCells_phase (cells : List Host.Cell) : (s.storeCells cells).phase = s.phase := rfl
@[simp] theorem State.storeCells_progress (cells : List Host.Cell) : (s.storeCells cells).progress = s.progress := rfl
@[simp] theorem State.storeCells_work (cells : List Host.Cell) : (s.storeCells cells).work = s.work := rfl
@[simp] theorem State.storeCells_mem (cells : List Host.Cell) : (s.storeCells cells).mem = s.mem.storeAll cells := rfl
@[simp] theorem State.storeCells_memDraw (cells : List Host.Cell) : (s.storeCells cells).memDraw = s.memDraw := rfl
@[simp] theorem State.storeCells_draws (cells : List Host.Cell) : (s.storeCells cells).draws = s.draws := rfl
@[simp] theorem State.storeCells_disturbed (cells : List Host.Cell) : (s.storeCells cells).disturbed = s.disturbed := rfl
@[simp] theorem State.storeCells_answer (cells : List Host.Cell) : (s.storeCells cells).answer = s.answer := rfl
@[simp] theorem State.storeCells_turns (cells : List Host.Cell) : (s.storeCells cells).turns = s.turns := rfl

/-! ### writeRaster -/

@[simp] theorem State.writeRaster_cfg (px : List Rgb) : (s.writeRaster px).cfg = s.cfg := rfl
@[simp] theorem State.writeRaster_ie (px : List Rgb) : (s.writeRaster px).ie = s.ie := rfl
@[simp] theorem State.writeRaster_done (px : List Rgb) : (s.writeRaster px).done = s.done := rfl
@[simp] theorem State.writeRaster_err (px : List Rgb) : (s.writeRaster px).err = s.err := rfl
@[simp] theorem State.writeRaster_errinfo (px : List Rgb) : (s.writeRaster px).errinfo = s.errinfo := rfl
@[simp] theorem State.writeRaster_lastcmd (px : List Rgb) : (s.writeRaster px).lastcmd = s.lastcmd := rfl
@[simp] theorem State.writeRaster_geom (px : List Rgb) : (s.writeRaster px).geom = s.geom := rfl
@[simp] theorem State.writeRaster_result0 (px : List Rgb) : (s.writeRaster px).result0 = s.result0 := rfl
@[simp] theorem State.writeRaster_result1 (px : List Rgb) : (s.writeRaster px).result1 = s.result1 := rfl
@[simp] theorem State.writeRaster_phase (px : List Rgb) : (s.writeRaster px).phase = s.phase := rfl
@[simp] theorem State.writeRaster_progress (px : List Rgb) : (s.writeRaster px).progress = s.progress := rfl
@[simp] theorem State.writeRaster_work (px : List Rgb) : (s.writeRaster px).work = s.work := rfl
@[simp] theorem State.writeRaster_mem (px : List Rgb) : (s.writeRaster px).mem = s.mem.storeAll (rasterCells px) := rfl
@[simp] theorem State.writeRaster_memDraw (px : List Rgb) : (s.writeRaster px).memDraw = s.memDraw := rfl
@[simp] theorem State.writeRaster_draws (px : List Rgb) : (s.writeRaster px).draws = s.draws := rfl
@[simp] theorem State.writeRaster_disturbed (px : List Rgb) : (s.writeRaster px).disturbed = s.disturbed := rfl
@[simp] theorem State.writeRaster_answer (px : List Rgb) : (s.writeRaster px).answer = s.answer := rfl
@[simp] theorem State.writeRaster_turns (px : List Rgb) : (s.writeRaster px).turns = s.turns := rfl

/-! ### writePbuf -/

@[simp] theorem State.writePbuf_cfg (bytes : List Byte) : (s.writePbuf bytes).cfg = s.cfg := rfl
@[simp] theorem State.writePbuf_ie (bytes : List Byte) : (s.writePbuf bytes).ie = s.ie := rfl
@[simp] theorem State.writePbuf_done (bytes : List Byte) : (s.writePbuf bytes).done = s.done := rfl
@[simp] theorem State.writePbuf_err (bytes : List Byte) : (s.writePbuf bytes).err = s.err := rfl
@[simp] theorem State.writePbuf_errinfo (bytes : List Byte) : (s.writePbuf bytes).errinfo = s.errinfo := rfl
@[simp] theorem State.writePbuf_lastcmd (bytes : List Byte) : (s.writePbuf bytes).lastcmd = s.lastcmd := rfl
@[simp] theorem State.writePbuf_geom (bytes : List Byte) : (s.writePbuf bytes).geom = s.geom := rfl
@[simp] theorem State.writePbuf_result0 (bytes : List Byte) : (s.writePbuf bytes).result0 = s.result0 := rfl
@[simp] theorem State.writePbuf_result1 (bytes : List Byte) : (s.writePbuf bytes).result1 = s.result1 := rfl
@[simp] theorem State.writePbuf_phase (bytes : List Byte) : (s.writePbuf bytes).phase = s.phase := rfl
@[simp] theorem State.writePbuf_progress (bytes : List Byte) : (s.writePbuf bytes).progress = s.progress := rfl
@[simp] theorem State.writePbuf_work (bytes : List Byte) : (s.writePbuf bytes).work = s.work := rfl
@[simp] theorem State.writePbuf_mem (bytes : List Byte) : (s.writePbuf bytes).mem = s.mem.storeAll (pbufCells bytes) := rfl
@[simp] theorem State.writePbuf_memDraw (bytes : List Byte) : (s.writePbuf bytes).memDraw = s.memDraw := rfl
@[simp] theorem State.writePbuf_draws (bytes : List Byte) : (s.writePbuf bytes).draws = s.draws := rfl
@[simp] theorem State.writePbuf_disturbed (bytes : List Byte) : (s.writePbuf bytes).disturbed = s.disturbed := rfl
@[simp] theorem State.writePbuf_answer (bytes : List Byte) : (s.writePbuf bytes).answer = s.answer := rfl
@[simp] theorem State.writePbuf_turns (bytes : List Byte) : (s.writePbuf bytes).turns = s.turns := rfl

/-! ### redrawAll -/

@[simp] theorem State.redrawAll_cfg : (s.redrawAll).cfg = s.cfg := rfl
@[simp] theorem State.redrawAll_ie : (s.redrawAll).ie = s.ie := rfl
@[simp] theorem State.redrawAll_done : (s.redrawAll).done = s.done := rfl
@[simp] theorem State.redrawAll_err : (s.redrawAll).err = s.err := rfl
@[simp] theorem State.redrawAll_errinfo : (s.redrawAll).errinfo = s.errinfo := rfl
@[simp] theorem State.redrawAll_lastcmd : (s.redrawAll).lastcmd = s.lastcmd := rfl
@[simp] theorem State.redrawAll_geom : (s.redrawAll).geom = s.geom := rfl
@[simp] theorem State.redrawAll_result0 : (s.redrawAll).result0 = s.result0 := rfl
@[simp] theorem State.redrawAll_result1 : (s.redrawAll).result1 = s.result1 := rfl
@[simp] theorem State.redrawAll_phase : (s.redrawAll).phase = s.phase := rfl
@[simp] theorem State.redrawAll_progress : (s.redrawAll).progress = s.progress := rfl
@[simp] theorem State.redrawAll_work : (s.redrawAll).work = s.work := rfl
@[simp] theorem State.redrawAll_mem : (s.redrawAll).mem = [] := rfl
@[simp] theorem State.redrawAll_memDraw : (s.redrawAll).memDraw = s.draws := rfl
@[simp] theorem State.redrawAll_draws : (s.redrawAll).draws = s.draws + 1 := rfl
@[simp] theorem State.redrawAll_disturbed : (s.redrawAll).disturbed = s.disturbed := rfl
@[simp] theorem State.redrawAll_answer : (s.redrawAll).answer = s.answer := rfl
@[simp] theorem State.redrawAll_turns : (s.redrawAll).turns = s.turns := rfl

/-! ### redrawRaster -/

@[simp] theorem State.redrawRaster_cfg (n : Nat) : (s.redrawRaster n).cfg = s.cfg := rfl
@[simp] theorem State.redrawRaster_ie (n : Nat) : (s.redrawRaster n).ie = s.ie := rfl
@[simp] theorem State.redrawRaster_done (n : Nat) : (s.redrawRaster n).done = s.done := rfl
@[simp] theorem State.redrawRaster_err (n : Nat) : (s.redrawRaster n).err = s.err := rfl
@[simp] theorem State.redrawRaster_errinfo (n : Nat) : (s.redrawRaster n).errinfo = s.errinfo := rfl
@[simp] theorem State.redrawRaster_lastcmd (n : Nat) : (s.redrawRaster n).lastcmd = s.lastcmd := rfl
@[simp] theorem State.redrawRaster_geom (n : Nat) : (s.redrawRaster n).geom = s.geom := rfl
@[simp] theorem State.redrawRaster_result0 (n : Nat) : (s.redrawRaster n).result0 = s.result0 := rfl
@[simp] theorem State.redrawRaster_result1 (n : Nat) : (s.redrawRaster n).result1 = s.result1 := rfl
@[simp] theorem State.redrawRaster_phase (n : Nat) : (s.redrawRaster n).phase = s.phase := rfl
@[simp] theorem State.redrawRaster_progress (n : Nat) : (s.redrawRaster n).progress = s.progress := rfl
@[simp] theorem State.redrawRaster_work (n : Nat) : (s.redrawRaster n).work = s.work := rfl
@[simp] theorem State.redrawRaster_mem (n : Nat) : (s.redrawRaster n).mem = s.mem.storeAll (rasterCells ((List.range n).map (drawnPixel s.draws))) := rfl
@[simp] theorem State.redrawRaster_memDraw (n : Nat) : (s.redrawRaster n).memDraw = s.memDraw := rfl
@[simp] theorem State.redrawRaster_draws (n : Nat) : (s.redrawRaster n).draws = s.draws + 1 := rfl
@[simp] theorem State.redrawRaster_disturbed (n : Nat) : (s.redrawRaster n).disturbed = s.disturbed := rfl
@[simp] theorem State.redrawRaster_answer (n : Nat) : (s.redrawRaster n).answer = s.answer := rfl
@[simp] theorem State.redrawRaster_turns (n : Nat) : (s.redrawRaster n).turns = s.turns := rfl

/-! ### redrawPbuf -/

@[simp] theorem State.redrawPbuf_cfg (n : Nat) : (s.redrawPbuf n).cfg = s.cfg := rfl
@[simp] theorem State.redrawPbuf_ie (n : Nat) : (s.redrawPbuf n).ie = s.ie := rfl
@[simp] theorem State.redrawPbuf_done (n : Nat) : (s.redrawPbuf n).done = s.done := rfl
@[simp] theorem State.redrawPbuf_err (n : Nat) : (s.redrawPbuf n).err = s.err := rfl
@[simp] theorem State.redrawPbuf_errinfo (n : Nat) : (s.redrawPbuf n).errinfo = s.errinfo := rfl
@[simp] theorem State.redrawPbuf_lastcmd (n : Nat) : (s.redrawPbuf n).lastcmd = s.lastcmd := rfl
@[simp] theorem State.redrawPbuf_geom (n : Nat) : (s.redrawPbuf n).geom = s.geom := rfl
@[simp] theorem State.redrawPbuf_result0 (n : Nat) : (s.redrawPbuf n).result0 = s.result0 := rfl
@[simp] theorem State.redrawPbuf_result1 (n : Nat) : (s.redrawPbuf n).result1 = s.result1 := rfl
@[simp] theorem State.redrawPbuf_phase (n : Nat) : (s.redrawPbuf n).phase = s.phase := rfl
@[simp] theorem State.redrawPbuf_progress (n : Nat) : (s.redrawPbuf n).progress = s.progress := rfl
@[simp] theorem State.redrawPbuf_work (n : Nat) : (s.redrawPbuf n).work = s.work := rfl
@[simp] theorem State.redrawPbuf_mem (n : Nat) : (s.redrawPbuf n).mem = s.mem.storeAll (pbufCells ((List.range n).map (drawnByte s.draws))) := rfl
@[simp] theorem State.redrawPbuf_memDraw (n : Nat) : (s.redrawPbuf n).memDraw = s.memDraw := rfl
@[simp] theorem State.redrawPbuf_draws (n : Nat) : (s.redrawPbuf n).draws = s.draws + 1 := rfl
@[simp] theorem State.redrawPbuf_disturbed (n : Nat) : (s.redrawPbuf n).disturbed = s.disturbed := rfl
@[simp] theorem State.redrawPbuf_answer (n : Nat) : (s.redrawPbuf n).answer = s.answer := rfl
@[simp] theorem State.redrawPbuf_turns (n : Nat) : (s.redrawPbuf n).turns = s.turns := rfl

/-! ### setResults -/

@[simp] theorem State.setResults_cfg (r0 r1 : Word) : (s.setResults r0 r1).cfg = s.cfg := rfl
@[simp] theorem State.setResults_ie (r0 r1 : Word) : (s.setResults r0 r1).ie = s.ie := rfl
@[simp] theorem State.setResults_done (r0 r1 : Word) : (s.setResults r0 r1).done = s.done := rfl
@[simp] theorem State.setResults_err (r0 r1 : Word) : (s.setResults r0 r1).err = s.err := rfl
@[simp] theorem State.setResults_errinfo (r0 r1 : Word) : (s.setResults r0 r1).errinfo = s.errinfo := rfl
@[simp] theorem State.setResults_lastcmd (r0 r1 : Word) : (s.setResults r0 r1).lastcmd = s.lastcmd := rfl
@[simp] theorem State.setResults_geom (r0 r1 : Word) : (s.setResults r0 r1).geom = s.geom := rfl
@[simp] theorem State.setResults_result0 (r0 r1 : Word) : (s.setResults r0 r1).result0 = r0 := rfl
@[simp] theorem State.setResults_result1 (r0 r1 : Word) : (s.setResults r0 r1).result1 = r1 := rfl
@[simp] theorem State.setResults_phase (r0 r1 : Word) : (s.setResults r0 r1).phase = s.phase := rfl
@[simp] theorem State.setResults_progress (r0 r1 : Word) : (s.setResults r0 r1).progress = s.progress := rfl
@[simp] theorem State.setResults_work (r0 r1 : Word) : (s.setResults r0 r1).work = s.work := rfl
@[simp] theorem State.setResults_mem (r0 r1 : Word) : (s.setResults r0 r1).mem = s.mem := rfl
@[simp] theorem State.setResults_memDraw (r0 r1 : Word) : (s.setResults r0 r1).memDraw = s.memDraw := rfl
@[simp] theorem State.setResults_draws (r0 r1 : Word) : (s.setResults r0 r1).draws = s.draws := rfl
@[simp] theorem State.setResults_disturbed (r0 r1 : Word) : (s.setResults r0 r1).disturbed = s.disturbed := rfl
@[simp] theorem State.setResults_answer (r0 r1 : Word) : (s.setResults r0 r1).answer = s.answer := rfl
@[simp] theorem State.setResults_turns (r0 r1 : Word) : (s.setResults r0 r1).turns = s.turns := rfl

/-! ### accept -/

@[simp] theorem State.accept_cfg (w : Word) : (s.accept w).cfg = s.cfg := rfl
@[simp] theorem State.accept_ie (w : Word) : (s.accept w).ie = s.ie := rfl
@[simp] theorem State.accept_done (w : Word) : (s.accept w).done = false := rfl
@[simp] theorem State.accept_err (w : Word) : (s.accept w).err = s.err := rfl
@[simp] theorem State.accept_errinfo (w : Word) : (s.accept w).errinfo = s.errinfo := rfl
@[simp] theorem State.accept_lastcmd (w : Word) : (s.accept w).lastcmd = w := rfl
@[simp] theorem State.accept_geom (w : Word) : (s.accept w).geom = s.geom := rfl
@[simp] theorem State.accept_result0 (w : Word) : (s.accept w).result0 = s.result0 := rfl
@[simp] theorem State.accept_result1 (w : Word) : (s.accept w).result1 = s.result1 := rfl
@[simp] theorem State.accept_phase (w : Word) : (s.accept w).phase = .running w (geomWidth s.geom) (geomHeight s.geom) := rfl
@[simp] theorem State.accept_progress (w : Word) : (s.accept w).progress = 0 := rfl
@[simp] theorem State.accept_work (w : Word) : (s.accept w).work = s.work := rfl
@[simp] theorem State.accept_mem (w : Word) : (s.accept w).mem = s.mem := rfl
@[simp] theorem State.accept_memDraw (w : Word) : (s.accept w).memDraw = s.memDraw := rfl
@[simp] theorem State.accept_draws (w : Word) : (s.accept w).draws = s.draws := rfl
@[simp] theorem State.accept_disturbed (w : Word) : (s.accept w).disturbed = false := rfl
@[simp] theorem State.accept_answer (w : Word) : (s.accept w).answer = s.answer := rfl
@[simp] theorem State.accept_turns (w : Word) : (s.accept w).turns = s.turns := rfl

/-! ### complete -/

@[simp] theorem State.complete_cfg : (s.complete).cfg = s.cfg := rfl
@[simp] theorem State.complete_ie : (s.complete).ie = s.ie := rfl
@[simp] theorem State.complete_done : (s.complete).done = true := rfl
@[simp] theorem State.complete_err : (s.complete).err = s.err := rfl
@[simp] theorem State.complete_errinfo : (s.complete).errinfo = s.errinfo := rfl
@[simp] theorem State.complete_lastcmd : (s.complete).lastcmd = s.lastcmd := rfl
@[simp] theorem State.complete_geom : (s.complete).geom = s.geom := rfl
@[simp] theorem State.complete_result0 : (s.complete).result0 = s.result0 := rfl
@[simp] theorem State.complete_result1 : (s.complete).result1 = s.result1 := rfl
@[simp] theorem State.complete_phase : (s.complete).phase = .idle := rfl
@[simp] theorem State.complete_progress : (s.complete).progress = 0 := rfl
@[simp] theorem State.complete_work : (s.complete).work = s.work := rfl
@[simp] theorem State.complete_mem : (s.complete).mem = s.mem := rfl
@[simp] theorem State.complete_memDraw : (s.complete).memDraw = s.memDraw := rfl
@[simp] theorem State.complete_draws : (s.complete).draws = s.draws := rfl
@[simp] theorem State.complete_disturbed : (s.complete).disturbed = false := rfl
@[simp] theorem State.complete_answer : (s.complete).answer = s.answer := rfl
@[simp] theorem State.complete_turns : (s.complete).turns = s.turns := rfl

/-! ### settle -/

@[simp] theorem State.settle_cfg : (s.settle).cfg = s.cfg := by
  unfold State.settle; split <;> simp_all
@[simp] theorem State.settle_ie : (s.settle).ie = s.ie := by
  unfold State.settle; split <;> simp_all
@[simp] theorem State.settle_done : (s.settle).done = s.done := by
  unfold State.settle; split <;> simp_all
@[simp] theorem State.settle_err : (s.settle).err = s.err := by
  unfold State.settle; split <;> simp_all
@[simp] theorem State.settle_errinfo : (s.settle).errinfo = s.errinfo := by
  unfold State.settle; split <;> simp_all
@[simp] theorem State.settle_lastcmd : (s.settle).lastcmd = s.lastcmd := by
  unfold State.settle; split <;> simp_all
@[simp] theorem State.settle_geom : (s.settle).geom = s.geom := by
  unfold State.settle; split <;> simp_all
@[simp] theorem State.settle_result0 : (s.settle).result0 = s.result0 := by
  unfold State.settle; split <;> simp_all
@[simp] theorem State.settle_result1 : (s.settle).result1 = s.result1 := by
  unfold State.settle; split <;> simp_all
@[simp] theorem State.settle_phase : (s.settle).phase = s.phase := by
  unfold State.settle; split <;> simp_all
@[simp] theorem State.settle_progress : (s.settle).progress = s.progress := by
  unfold State.settle; split <;> simp_all
@[simp] theorem State.settle_work : (s.settle).work = s.work := by
  unfold State.settle; split <;> simp_all
@[simp] theorem State.settle_mem : (s.settle).mem = if s.disturbed then [] else s.mem := by
  unfold State.settle; split <;> simp_all
@[simp] theorem State.settle_memDraw : (s.settle).memDraw = if s.disturbed then s.draws else s.memDraw := by
  unfold State.settle; split <;> simp_all
@[simp] theorem State.settle_draws : (s.settle).draws = if s.disturbed then s.draws + 1 else s.draws := by
  unfold State.settle; split <;> simp_all
@[simp] theorem State.settle_disturbed : (s.settle).disturbed = s.disturbed := by
  unfold State.settle; split <;> simp_all
@[simp] theorem State.settle_answer : (s.settle).answer = s.answer := by
  unfold State.settle; split <;> simp_all
@[simp] theorem State.settle_turns : (s.settle).turns = s.turns := by
  unfold State.settle; split <;> simp_all

/-! ### record -/

@[simp] theorem State.record_cfg (e : ErrCode) (info : Word) : (s.record e info).cfg = s.cfg := by
  unfold State.record; split <;> rfl
@[simp] theorem State.record_ie (e : ErrCode) (info : Word) : (s.record e info).ie = s.ie := by
  unfold State.record; split <;> rfl
@[simp] theorem State.record_done (e : ErrCode) (info : Word) : (s.record e info).done = s.done := by
  unfold State.record; split <;> rfl
@[simp] theorem State.record_err (e : ErrCode) (info : Word) : (s.record e info).err = if s.err = 0#4 then errCode e else s.err := by
  unfold State.record; split <;> rfl
@[simp] theorem State.record_errinfo (e : ErrCode) (info : Word) : (s.record e info).errinfo = if s.err = 0#4 then info else s.errinfo := by
  unfold State.record; split <;> rfl
@[simp] theorem State.record_lastcmd (e : ErrCode) (info : Word) : (s.record e info).lastcmd = s.lastcmd := by
  unfold State.record; split <;> rfl
@[simp] theorem State.record_geom (e : ErrCode) (info : Word) : (s.record e info).geom = s.geom := by
  unfold State.record; split <;> rfl
@[simp] theorem State.record_result0 (e : ErrCode) (info : Word) : (s.record e info).result0 = s.result0 := by
  unfold State.record; split <;> rfl
@[simp] theorem State.record_result1 (e : ErrCode) (info : Word) : (s.record e info).result1 = s.result1 := by
  unfold State.record; split <;> rfl
@[simp] theorem State.record_phase (e : ErrCode) (info : Word) : (s.record e info).phase = s.phase := by
  unfold State.record; split <;> rfl
@[simp] theorem State.record_progress (e : ErrCode) (info : Word) : (s.record e info).progress = s.progress := by
  unfold State.record; split <;> rfl
@[simp] theorem State.record_work (e : ErrCode) (info : Word) : (s.record e info).work = s.work := by
  unfold State.record; split <;> rfl
@[simp] theorem State.record_mem (e : ErrCode) (info : Word) : (s.record e info).mem = s.mem := by
  unfold State.record; split <;> rfl
@[simp] theorem State.record_memDraw (e : ErrCode) (info : Word) : (s.record e info).memDraw = s.memDraw := by
  unfold State.record; split <;> rfl
@[simp] theorem State.record_draws (e : ErrCode) (info : Word) : (s.record e info).draws = s.draws := by
  unfold State.record; split <;> rfl
@[simp] theorem State.record_disturbed (e : ErrCode) (info : Word) : (s.record e info).disturbed = s.disturbed := by
  unfold State.record; split <;> rfl
@[simp] theorem State.record_answer (e : ErrCode) (info : Word) : (s.record e info).answer = s.answer := by
  unfold State.record; split <;> rfl
@[simp] theorem State.record_turns (e : ErrCode) (info : Word) : (s.record e info).turns = s.turns := by
  unfold State.record; split <;> rfl

/-! ### clearError -/

@[simp] theorem State.clearError_cfg : (s.clearError).cfg = s.cfg := rfl
@[simp] theorem State.clearError_ie : (s.clearError).ie = s.ie := rfl
@[simp] theorem State.clearError_done : (s.clearError).done = s.done := rfl
@[simp] theorem State.clearError_err : (s.clearError).err = 0 := rfl
@[simp] theorem State.clearError_errinfo : (s.clearError).errinfo = 0 := rfl
@[simp] theorem State.clearError_lastcmd : (s.clearError).lastcmd = s.lastcmd := rfl
@[simp] theorem State.clearError_geom : (s.clearError).geom = s.geom := rfl
@[simp] theorem State.clearError_result0 : (s.clearError).result0 = s.result0 := rfl
@[simp] theorem State.clearError_result1 : (s.clearError).result1 = s.result1 := rfl
@[simp] theorem State.clearError_phase : (s.clearError).phase = s.phase := rfl
@[simp] theorem State.clearError_progress : (s.clearError).progress = s.progress := rfl
@[simp] theorem State.clearError_work : (s.clearError).work = s.work := rfl
@[simp] theorem State.clearError_mem : (s.clearError).mem = s.mem := rfl
@[simp] theorem State.clearError_memDraw : (s.clearError).memDraw = s.memDraw := rfl
@[simp] theorem State.clearError_draws : (s.clearError).draws = s.draws := rfl
@[simp] theorem State.clearError_disturbed : (s.clearError).disturbed = s.disturbed := rfl
@[simp] theorem State.clearError_answer : (s.clearError).answer = s.answer := rfl
@[simp] theorem State.clearError_turns : (s.clearError).turns = s.turns := rfl

/-! ### resetRegisters -/

@[simp] theorem State.resetRegisters_cfg : (s.resetRegisters).cfg = s.cfg := rfl
@[simp] theorem State.resetRegisters_ie : (s.resetRegisters).ie = false := rfl
@[simp] theorem State.resetRegisters_done : (s.resetRegisters).done = false := rfl
@[simp] theorem State.resetRegisters_err : (s.resetRegisters).err = 0 := rfl
@[simp] theorem State.resetRegisters_errinfo : (s.resetRegisters).errinfo = 0 := rfl
@[simp] theorem State.resetRegisters_lastcmd : (s.resetRegisters).lastcmd = 0 := rfl
@[simp] theorem State.resetRegisters_geom : (s.resetRegisters).geom = 0 := rfl
@[simp] theorem State.resetRegisters_result0 : (s.resetRegisters).result0 = 0 := rfl
@[simp] theorem State.resetRegisters_result1 : (s.resetRegisters).result1 = 0 := rfl
@[simp] theorem State.resetRegisters_phase : (s.resetRegisters).phase = .idle := rfl
@[simp] theorem State.resetRegisters_progress : (s.resetRegisters).progress = 0 := rfl
@[simp] theorem State.resetRegisters_work : (s.resetRegisters).work = s.work := rfl
@[simp] theorem State.resetRegisters_mem : (s.resetRegisters).mem = s.mem := rfl
@[simp] theorem State.resetRegisters_memDraw : (s.resetRegisters).memDraw = s.memDraw := rfl
@[simp] theorem State.resetRegisters_draws : (s.resetRegisters).draws = s.draws := rfl
@[simp] theorem State.resetRegisters_disturbed : (s.resetRegisters).disturbed = false := rfl
@[simp] theorem State.resetRegisters_answer : (s.resetRegisters).answer = s.answer := rfl
@[simp] theorem State.resetRegisters_turns : (s.resetRegisters).turns = s.turns := rfl

/-! ### hardReset -/

@[simp] theorem State.hardReset_cfg : (s.hardReset).cfg = s.cfg := rfl
@[simp] theorem State.hardReset_ie : (s.hardReset).ie = false := rfl
@[simp] theorem State.hardReset_done : (s.hardReset).done = false := rfl
@[simp] theorem State.hardReset_err : (s.hardReset).err = 0 := rfl
@[simp] theorem State.hardReset_errinfo : (s.hardReset).errinfo = 0 := rfl
@[simp] theorem State.hardReset_lastcmd : (s.hardReset).lastcmd = 0 := rfl
@[simp] theorem State.hardReset_geom : (s.hardReset).geom = 0 := rfl
@[simp] theorem State.hardReset_result0 : (s.hardReset).result0 = 0 := rfl
@[simp] theorem State.hardReset_result1 : (s.hardReset).result1 = 0 := rfl
@[simp] theorem State.hardReset_phase : (s.hardReset).phase = .idle := rfl
@[simp] theorem State.hardReset_progress : (s.hardReset).progress = 0 := rfl
@[simp] theorem State.hardReset_work : (s.hardReset).work = [] := rfl
@[simp] theorem State.hardReset_mem : (s.hardReset).mem = [] := rfl
@[simp] theorem State.hardReset_memDraw : (s.hardReset).memDraw = s.draws := rfl
@[simp] theorem State.hardReset_draws : (s.hardReset).draws = s.draws + 1 := rfl
@[simp] theorem State.hardReset_disturbed : (s.hardReset).disturbed = false := rfl
@[simp] theorem State.hardReset_answer : (s.hardReset).answer = none := rfl
@[simp] theorem State.hardReset_turns : (s.hardReset).turns = s.turns := rfl

/-! ### answerRead -/

@[simp] theorem State.answerRead_cfg (v : Word) : (s.answerRead v).cfg = s.cfg := rfl
@[simp] theorem State.answerRead_ie (v : Word) : (s.answerRead v).ie = s.ie := rfl
@[simp] theorem State.answerRead_done (v : Word) : (s.answerRead v).done = s.done := rfl
@[simp] theorem State.answerRead_err (v : Word) : (s.answerRead v).err = s.err := rfl
@[simp] theorem State.answerRead_errinfo (v : Word) : (s.answerRead v).errinfo = s.errinfo := rfl
@[simp] theorem State.answerRead_lastcmd (v : Word) : (s.answerRead v).lastcmd = s.lastcmd := rfl
@[simp] theorem State.answerRead_geom (v : Word) : (s.answerRead v).geom = s.geom := rfl
@[simp] theorem State.answerRead_result0 (v : Word) : (s.answerRead v).result0 = s.result0 := rfl
@[simp] theorem State.answerRead_result1 (v : Word) : (s.answerRead v).result1 = s.result1 := rfl
@[simp] theorem State.answerRead_phase (v : Word) : (s.answerRead v).phase = s.phase := rfl
@[simp] theorem State.answerRead_progress (v : Word) : (s.answerRead v).progress = s.progress := rfl
@[simp] theorem State.answerRead_work (v : Word) : (s.answerRead v).work = s.work := rfl
@[simp] theorem State.answerRead_mem (v : Word) : (s.answerRead v).mem = s.mem := rfl
@[simp] theorem State.answerRead_memDraw (v : Word) : (s.answerRead v).memDraw = s.memDraw := rfl
@[simp] theorem State.answerRead_draws (v : Word) : (s.answerRead v).draws = s.draws := rfl
@[simp] theorem State.answerRead_disturbed (v : Word) : (s.answerRead v).disturbed = s.disturbed := rfl
@[simp] theorem State.answerRead_answer (v : Word) : (s.answerRead v).answer = some (.read v .ok) := rfl
@[simp] theorem State.answerRead_turns (v : Word) : (s.answerRead v).turns = s.turns := rfl

/-! ### answerWrite -/

@[simp] theorem State.answerWrite_cfg : (s.answerWrite).cfg = s.cfg := rfl
@[simp] theorem State.answerWrite_ie : (s.answerWrite).ie = s.ie := rfl
@[simp] theorem State.answerWrite_done : (s.answerWrite).done = s.done := rfl
@[simp] theorem State.answerWrite_err : (s.answerWrite).err = s.err := rfl
@[simp] theorem State.answerWrite_errinfo : (s.answerWrite).errinfo = s.errinfo := rfl
@[simp] theorem State.answerWrite_lastcmd : (s.answerWrite).lastcmd = s.lastcmd := rfl
@[simp] theorem State.answerWrite_geom : (s.answerWrite).geom = s.geom := rfl
@[simp] theorem State.answerWrite_result0 : (s.answerWrite).result0 = s.result0 := rfl
@[simp] theorem State.answerWrite_result1 : (s.answerWrite).result1 = s.result1 := rfl
@[simp] theorem State.answerWrite_phase : (s.answerWrite).phase = s.phase := rfl
@[simp] theorem State.answerWrite_progress : (s.answerWrite).progress = s.progress := rfl
@[simp] theorem State.answerWrite_work : (s.answerWrite).work = s.work := rfl
@[simp] theorem State.answerWrite_mem : (s.answerWrite).mem = s.mem := rfl
@[simp] theorem State.answerWrite_memDraw : (s.answerWrite).memDraw = s.memDraw := rfl
@[simp] theorem State.answerWrite_draws : (s.answerWrite).draws = s.draws := rfl
@[simp] theorem State.answerWrite_disturbed : (s.answerWrite).disturbed = s.disturbed := rfl
@[simp] theorem State.answerWrite_answer : (s.answerWrite).answer = some (.write .ok) := rfl
@[simp] theorem State.answerWrite_turns : (s.answerWrite).turns = s.turns := rfl

/-! ### readError -/

@[simp] theorem State.readError_cfg : (s.readError).cfg = s.cfg := rfl
@[simp] theorem State.readError_ie : (s.readError).ie = s.ie := rfl
@[simp] theorem State.readError_done : (s.readError).done = s.done := rfl
@[simp] theorem State.readError_err : (s.readError).err = s.err := rfl
@[simp] theorem State.readError_errinfo : (s.readError).errinfo = s.errinfo := rfl
@[simp] theorem State.readError_lastcmd : (s.readError).lastcmd = s.lastcmd := rfl
@[simp] theorem State.readError_geom : (s.readError).geom = s.geom := rfl
@[simp] theorem State.readError_result0 : (s.readError).result0 = s.result0 := rfl
@[simp] theorem State.readError_result1 : (s.readError).result1 = s.result1 := rfl
@[simp] theorem State.readError_phase : (s.readError).phase = s.phase := rfl
@[simp] theorem State.readError_progress : (s.readError).progress = s.progress := rfl
@[simp] theorem State.readError_work : (s.readError).work = s.work := rfl
@[simp] theorem State.readError_mem : (s.readError).mem = s.mem := rfl
@[simp] theorem State.readError_memDraw : (s.readError).memDraw = s.memDraw := rfl
@[simp] theorem State.readError_draws : (s.readError).draws = s.draws := rfl
@[simp] theorem State.readError_disturbed : (s.readError).disturbed = s.disturbed := rfl
@[simp] theorem State.readError_answer : (s.readError).answer = some (.read 0 .busError) := rfl
@[simp] theorem State.readError_turns : (s.readError).turns = s.turns := rfl

/-! ### writeError -/

@[simp] theorem State.writeError_cfg : (s.writeError).cfg = s.cfg := rfl
@[simp] theorem State.writeError_ie : (s.writeError).ie = s.ie := rfl
@[simp] theorem State.writeError_done : (s.writeError).done = s.done := rfl
@[simp] theorem State.writeError_err : (s.writeError).err = s.err := rfl
@[simp] theorem State.writeError_errinfo : (s.writeError).errinfo = s.errinfo := rfl
@[simp] theorem State.writeError_lastcmd : (s.writeError).lastcmd = s.lastcmd := rfl
@[simp] theorem State.writeError_geom : (s.writeError).geom = s.geom := rfl
@[simp] theorem State.writeError_result0 : (s.writeError).result0 = s.result0 := rfl
@[simp] theorem State.writeError_result1 : (s.writeError).result1 = s.result1 := rfl
@[simp] theorem State.writeError_phase : (s.writeError).phase = s.phase := rfl
@[simp] theorem State.writeError_progress : (s.writeError).progress = s.progress := rfl
@[simp] theorem State.writeError_work : (s.writeError).work = s.work := rfl
@[simp] theorem State.writeError_mem : (s.writeError).mem = s.mem := rfl
@[simp] theorem State.writeError_memDraw : (s.writeError).memDraw = s.memDraw := rfl
@[simp] theorem State.writeError_draws : (s.writeError).draws = s.draws := rfl
@[simp] theorem State.writeError_disturbed : (s.writeError).disturbed = s.disturbed := rfl
@[simp] theorem State.writeError_answer : (s.writeError).answer = some (.write .busError) := rfl
@[simp] theorem State.writeError_turns : (s.writeError).turns = s.turns := rfl

/-! ### engineWork -/

@[simp] theorem State.engineWork_cfg : s.engineWork.cfg = s.cfg := by
  unfold State.engineWork; split <;> rfl
@[simp] theorem State.engineWork_ie : s.engineWork.ie = s.ie := by
  unfold State.engineWork; split <;> rfl
@[simp] theorem State.engineWork_done : s.engineWork.done = s.done := by
  unfold State.engineWork; split <;> rfl
@[simp] theorem State.engineWork_err : s.engineWork.err = s.err := by
  unfold State.engineWork; split <;> rfl
@[simp] theorem State.engineWork_errinfo : s.engineWork.errinfo = s.errinfo := by
  unfold State.engineWork; split <;> rfl
@[simp] theorem State.engineWork_lastcmd : s.engineWork.lastcmd = s.lastcmd := by
  unfold State.engineWork; split <;> rfl
@[simp] theorem State.engineWork_geom : s.engineWork.geom = s.geom := by
  unfold State.engineWork; split <;> rfl
@[simp] theorem State.engineWork_result0 : s.engineWork.result0 = s.result0 := by
  unfold State.engineWork; split <;> rfl
@[simp] theorem State.engineWork_result1 : s.engineWork.result1 = s.result1 := by
  unfold State.engineWork; split <;> rfl
@[simp] theorem State.engineWork_phase : s.engineWork.phase = s.phase := by
  unfold State.engineWork; split <;> rfl
@[simp] theorem State.engineWork_work : s.engineWork.work = s.work := by
  unfold State.engineWork; split <;> rfl
@[simp] theorem State.engineWork_mem : s.engineWork.mem = s.mem := by
  unfold State.engineWork; split <;> rfl
@[simp] theorem State.engineWork_memDraw : s.engineWork.memDraw = s.memDraw := by
  unfold State.engineWork; split <;> rfl
@[simp] theorem State.engineWork_draws : s.engineWork.draws = s.draws := by
  unfold State.engineWork; split <;> rfl
@[simp] theorem State.engineWork_disturbed : s.engineWork.disturbed = s.disturbed := by
  unfold State.engineWork; split <;> rfl
@[simp] theorem State.engineWork_answer : s.engineWork.answer = s.answer := by
  unfold State.engineWork; split <;> rfl
@[simp] theorem State.engineWork_turns : s.engineWork.turns = s.turns := by
  unfold State.engineWork; split <;> rfl

/-! ### abandon -/

@[simp] theorem State.abandon_cfg : s.abandon.cfg = s.cfg := by
  unfold State.abandon; (repeat' split) <;> rfl
@[simp] theorem State.abandon_ie : s.abandon.ie = s.ie := by
  unfold State.abandon; (repeat' split) <;> rfl
@[simp] theorem State.abandon_done : s.abandon.done = s.done := by
  unfold State.abandon; (repeat' split) <;> rfl
@[simp] theorem State.abandon_err : s.abandon.err = s.err := by
  unfold State.abandon; (repeat' split) <;> rfl
@[simp] theorem State.abandon_errinfo : s.abandon.errinfo = s.errinfo := by
  unfold State.abandon; (repeat' split) <;> rfl
@[simp] theorem State.abandon_lastcmd : s.abandon.lastcmd = s.lastcmd := by
  unfold State.abandon; (repeat' split) <;> rfl
@[simp] theorem State.abandon_geom : s.abandon.geom = s.geom := by
  unfold State.abandon; (repeat' split) <;> rfl
@[simp] theorem State.abandon_result0 : s.abandon.result0 = s.result0 := by
  unfold State.abandon; (repeat' split) <;> rfl
@[simp] theorem State.abandon_result1 : s.abandon.result1 = s.result1 := by
  unfold State.abandon; (repeat' split) <;> rfl
@[simp] theorem State.abandon_phase : s.abandon.phase = s.phase := by
  unfold State.abandon; (repeat' split) <;> rfl
@[simp] theorem State.abandon_progress : s.abandon.progress = s.progress := by
  unfold State.abandon; (repeat' split) <;> rfl
@[simp] theorem State.abandon_work : s.abandon.work = s.work := by
  unfold State.abandon; (repeat' split) <;> rfl
@[simp] theorem State.abandon_memDraw : s.abandon.memDraw = s.memDraw := by
  unfold State.abandon; (repeat' split) <;> rfl
@[simp] theorem State.abandon_disturbed : s.abandon.disturbed = s.disturbed := by
  unfold State.abandon; (repeat' split) <;> rfl
@[simp] theorem State.abandon_answer : s.abandon.answer = s.answer := by
  unfold State.abandon; (repeat' split) <;> rfl
@[simp] theorem State.abandon_turns : s.abandon.turns = s.turns := by
  unfold State.abandon; (repeat' split) <;> rfl

/-! ### BUSY and the latched geometry see the phase alone -/

theorem State.busy_of_phase {s t : State} (h : t.phase = s.phase) : t.busy = s.busy := by
  unfold State.busy; rw [h]

theorem State.busy_idle {s : State} (h : s.phase = .idle) : s.busy = false := by
  unfold State.busy; rw [h]

theorem State.busy_running {s : State} {w : Word} {wl hl : BitVec 16} (h : s.phase = .running w wl hl) :
    s.busy = true := by
  unfold State.busy; rw [h]

theorem State.busy_eq_false {s : State} : s.busy = false ↔ s.phase = .idle := by
  unfold State.busy; cases s.phase <;> simp

theorem State.busy_eq_true {s : State} : s.busy = true ↔ ∃ w wl hl, s.phase = .running w wl hl := by
  unfold State.busy; cases s.phase <;> simp

theorem State.latchedGeometry_running {s : State} {w : Word} {wl hl : BitVec 16} (h : s.phase = .running w wl hl) :
    s.latchedGeometry = (wl, hl) := by
  unfold State.latchedGeometry; rw [h]

@[simp] theorem State.busy_complete : s.complete.busy = false := by
  simp [State.busy]

@[simp] theorem State.busy_accept (w : Word) : (s.accept w).busy = true := rfl

@[simp] theorem State.busy_storeCells (cells : List Host.Cell) : (s.storeCells cells).busy = s.busy := rfl

@[simp] theorem State.busy_setResults (r0 r1 : Word) : (s.setResults r0 r1).busy = s.busy := rfl

@[simp] theorem State.busy_record (e : ErrCode) (info : Word) : (s.record e info).busy = s.busy :=
  State.busy_of_phase (State.record_phase s e info)

end Sys2Proof.Machine
end

