-- ==== Sys2Proof/Laws/Memory.lean ====
section
/-! SUPPORT. The laws of the memory list: what is stored after a store, and that every memory operation keeps the canonical
form. -/

namespace Sys2Proof.Machine

/-! ### Reading after storing -/

@[simp] theorem Memory.stored_nil (a : Nat) : Memory.stored [] a = none := rfl

theorem Memory.stored_cons (b : Nat) (v : Byte) (m : Memory) (a : Nat) :
    Memory.stored ((b, v) :: m) a = if a = b then some v else Memory.stored m a := rfl

/-- In canonical form, an address below every listed one is unlisted. -/
theorem Memory.stored_eq_none_of_lt {m : Memory} {a : Nat} (h : ∀ c ∈ m, a < c.1) : m.stored a = none := by
  induction m with
  | nil => rfl
  | cons c m ih =>
    rw [Memory.stored_cons, if_neg (Nat.ne_of_lt (h c (List.mem_cons_self)))]
    exact ih (fun d hd => h d (List.mem_cons_of_mem _ hd))

/-- An unlisted address stores nothing. -/
theorem Memory.stored_eq_none {m : Memory} {a : Nat} (h : ∀ c ∈ m, c.1 ≠ a) : m.stored a = none := by
  induction m with
  | nil => rfl
  | cons c m ih =>
    rw [Memory.stored_cons, if_neg (fun e => h c List.mem_cons_self e.symm)]
    exact ih (fun d hd => h d (List.mem_cons_of_mem _ hd))

/-- A store reads back at its address and leaves every other address alone. -/
theorem Memory.stored_store (m : Memory) (a : Nat) (v : Byte) (b : Nat) :
    (m.store a v).stored b = if b = a then some v else m.stored b := by
  induction m with
  | nil => rfl
  | cons c m ih =>
    obtain ⟨x, u⟩ := c
    by_cases h1 : a < x
    · simp only [Memory.store, if_pos h1]; rfl
    · by_cases h2 : a = x
      · subst h2
        simp only [Memory.store, lt_self_iff_false, if_false, if_true, Memory.stored_cons]
        split <;> rfl
      · simp only [Memory.store, if_neg h1, if_neg h2, Memory.stored_cons, ih]
        by_cases hb : b = x
        · rw [if_pos hb, if_neg (fun e => h2 (e.symm.trans hb)), if_pos hb]
        · rw [if_neg hb, if_neg hb]

@[simp] theorem Memory.storeAll_nil (m : Memory) : m.storeAll [] = m := rfl

@[simp] theorem Memory.storeAll_cons (m : Memory) (c : Host.Cell) (cells : List Host.Cell) :
    m.storeAll (c :: cells) = (m.store c.1 c.2).storeAll cells := rfl

theorem Memory.storeAll_append (m : Memory) (cs ds : List Host.Cell) :
    m.storeAll (cs ++ ds) = (m.storeAll cs).storeAll ds := List.foldl_append

/-- Storing cells leaves an address none of them names alone. -/
theorem Memory.stored_storeAll_of_notMem {cells : List Host.Cell} {a : Nat} (h : ∀ c ∈ cells, c.1 ≠ a) (m : Memory) :
    (m.storeAll cells).stored a = m.stored a := by
  induction cells generalizing m with
  | nil => rfl
  | cons c cells ih =>
    rw [Memory.storeAll_cons, ih (fun d hd => h d (List.mem_cons_of_mem _ hd)), Memory.stored_store,
      if_neg (fun e => h c List.mem_cons_self e.symm)]

/-- Storing cells with distinct addresses makes each of them read back. -/
theorem Memory.stored_storeAll_of_mem {cells : List Host.Cell} (hd : (cells.map Prod.fst).Nodup) {c : Host.Cell}
    (h : c ∈ cells) (m : Memory) : (m.storeAll cells).stored c.1 = some c.2 := by
  induction cells generalizing m with
  | nil => cases h
  | cons d cells ih =>
    rw [List.map_cons, List.nodup_cons] at hd
    rw [Memory.storeAll_cons]
    rcases List.mem_cons.mp h with rfl | h
    · rw [Memory.stored_storeAll_of_notMem (fun e he hne => hd.1 (by rw [← hne]; exact List.mem_map_of_mem he)),
        Memory.stored_store,
        if_pos rfl]
    · exact ih hd.2 h _

/-! ### The canonical form -/

/-- The addresses after a store are the old ones and the new one. -/
theorem Memory.mem_store {m : Memory} {a : Nat} {v : Byte} {c : Host.Cell} (h : c ∈ m.store a v) : c = (a, v) ∨ c ∈ m := by
  induction m with
  | nil => simpa [Memory.store] using h
  | cons d m ih =>
    obtain ⟨x, u⟩ := d
    unfold Memory.store at h
    split at h
    · simpa using h
    · split at h
      · rcases List.mem_cons.mp h with h | h
        · exact .inl h
        · exact .inr (List.mem_cons_of_mem _ h)
      · rcases List.mem_cons.mp h with h | h
        · exact .inr (h ▸ List.mem_cons_self)
        · exact (ih h).imp id (List.mem_cons_of_mem _)

/-- A store keeps the canonical form. -/
theorem Memory.wf_store {m : Memory} (h : m.wf) (a : Nat) (v : Byte) : (m.store a v).wf := by
  induction m with
  | nil => exact List.pairwise_singleton _ _
  | cons d m ih =>
    obtain ⟨x, u⟩ := d
    have ⟨hx, hm⟩ := List.pairwise_cons.mp h
    unfold Memory.store
    split
    · rename_i hlt
      refine List.pairwise_cons.mpr ⟨fun c hc => ?_, h⟩
      rcases List.mem_cons.mp hc with rfl | hc
      · exact hlt
      · exact Nat.lt_trans hlt (hx c hc)
    · split
      · rename_i heq
        subst heq
        exact List.pairwise_cons.mpr ⟨hx, hm⟩
      · rename_i hlt hne
        refine List.pairwise_cons.mpr ⟨fun c hc => ?_, ih hm⟩
        rcases Memory.mem_store hc with rfl | hc
        · exact Nat.lt_of_le_of_ne (Nat.le_of_not_lt hlt) (Ne.symm hne)
        · exact hx c hc

theorem Memory.mem_storeAll {cells : List Host.Cell} {m : Memory} {c : Host.Cell} (h : c ∈ m.storeAll cells) :
    c ∈ cells ∨ c ∈ m := by
  induction cells generalizing m with
  | nil => exact .inr h
  | cons d cells ih =>
    rcases ih h with h | h
    · exact .inl (List.mem_cons_of_mem _ h)
    · rcases Memory.mem_store h with rfl | h
      · exact .inl List.mem_cons_self
      · exact .inr h

/-- Storing cells keeps the canonical form. -/
theorem Memory.wf_storeAll {m : Memory} (h : m.wf) (cells : List Host.Cell) : (m.storeAll cells).wf := by
  induction cells generalizing m with
  | nil => exact h
  | cons d cells ih => exact ih (Memory.wf_store h d.1 d.2)

/-- The canonical form holds right after reset. -/
theorem State.reset_mem_wf : State.reset.mem.wf := List.Pairwise.nil

theorem State.storeCells_mem_wf {s : State} (h : s.mem.wf) (cells : List Host.Cell) : (s.storeCells cells).mem.wf :=
  Memory.wf_storeAll h cells

theorem State.redrawAll_mem_wf (s : State) : s.redrawAll.mem.wf := List.Pairwise.nil

theorem State.redrawRaster_mem_wf {s : State} (h : s.mem.wf) (n : Nat) : (s.redrawRaster n).mem.wf :=
  Memory.wf_storeAll h _

theorem State.redrawPbuf_mem_wf {s : State} (h : s.mem.wf) (n : Nat) : (s.redrawPbuf n).mem.wf :=
  Memory.wf_storeAll h _

theorem State.settle_mem_wf {s : State} (h : s.mem.wf) : s.settle.mem.wf := by
  rw [State.settle_mem]; split
  · exact List.Pairwise.nil
  · exact h

theorem State.abandon_mem_wf {s : State} (h : s.mem.wf) : s.abandon.mem.wf := by
  unfold State.abandon
  split
  · exact h
  · split
    · exact h
    · exact State.redrawRaster_mem_wf h _
    · exact State.redrawPbuf_mem_wf h _

/-! ### Reading one byte of the state's memory -/

/-- Two states with one memory and one draw read alike. -/
theorem State.readByte_congr {s t : State} (hm : t.mem = s.mem) (hd : t.memDraw = s.memDraw) (a : Nat) :
    t.readByte a = s.readByte a := by
  unfold State.readByte State.unwritten; rw [hm, hd]

theorem State.readByte_storeCells_of_notMem {cells : List Host.Cell} {a : Nat} (h : ∀ c ∈ cells, c.1 ≠ a) (s : State) :
    (s.storeCells cells).readByte a = s.readByte a := by
  unfold State.readByte State.unwritten
  rw [State.storeCells_mem, State.storeCells_memDraw, Memory.stored_storeAll_of_notMem h]

theorem State.readByte_storeCells_of_mem {cells : List Host.Cell} (hd : (cells.map Prod.fst).Nodup) {c : Host.Cell}
    (h : c ∈ cells) (s : State) : (s.storeCells cells).readByte c.1 = c.2 := by
  unfold State.readByte
  rw [State.storeCells_mem, Memory.stored_storeAll_of_mem hd h, Option.getD_some]

/-- After a whole redraw every byte is of the new draw. -/
theorem State.readByte_redrawAll (s : State) (a : Nat) : s.redrawAll.readByte a = Config.freeByte s.draws a := rfl

/-- Completion keeps memory (R183). -/
theorem State.readByte_complete (s : State) (a : Nat) : s.complete.readByte a = s.readByte a :=
  State.readByte_congr (State.complete_mem s) (State.complete_memDraw s) a

/-- The end of an undisturbed frame command keeps memory. -/
theorem State.readByte_settle {s : State} (h : s.disturbed = false) (a : Nat) : s.settle.readByte a = s.readByte a := by
  apply State.readByte_congr <;> simp [h]

/-- The end of a disturbed frame command draws all of memory anew (R246). -/
theorem State.readByte_settle_disturbed {s : State} (h : s.disturbed = true) (a : Nat) :
    s.settle.readByte a = Config.freeByte s.draws a := by
  unfold State.readByte State.unwritten; simp [h]

end Sys2Proof.Machine
end

