-- ==== Sys2Proof/Laws/Windows.lean ====
section
/-! SUPPORT. RASTER and PBUF through the memory list: what RASTER[p] and PBUF[k] read after a block is written, and which
bytes a block write leaves alone. -/

namespace Sys2Proof.Machine

/-! ### Addresses -/

theorem pbufAddr_inj {j k : Nat} (h : pbufAddr j = pbufAddr k) : j = k := by
  unfold pbufAddr at h; omega

theorem rasterAddr_inj {p q i j : Nat} (hi : i < 4) (hj : j < 4) (h : rasterAddr p i = rasterAddr q j) : p = q ∧ i = j := by
  unfold rasterAddr at h; omega

/-- PBUF and RASTER do not overlap within the PBUF window. -/
theorem pbufAddr_ne_rasterAddr {k p i : Nat} (h : k < 0x100000) : pbufAddr k ≠ rasterAddr p i := by
  unfold pbufAddr rasterAddr; omega

/-- The capacities of a legal configuration lie within the windows (R6, R62). -/
theorem Config.capacity_of_inRange {c : Config} (h : c.inRange = true) :
    c.pbufBytes ≤ 0x100000 ∧ c.rasterWords ≤ 0x80000 := by
  unfold Config.inRange at h
  simp only [Bool.and_eq_true, decide_eq_true_eq] at h
  obtain ⟨⟨⟨⟨⟨-, h1⟩, -⟩, h2⟩, -⟩, h3⟩ := h
  refine ⟨?_, h3⟩
  unfold Config.pbufBytes
  have : c.maxH * ((c.maxW + 1) / 2) ≤ c.maxH * c.maxW := Nat.mul_le_mul_left _ (by omega)
  rw [Nat.mul_comm c.maxH c.maxW] at this
  omega

/-! ### The cells of a block -/

theorem mem_pixelCells {p : Nat} {t : Rgb} {c : Host.Cell} (h : c ∈ pixelCells p t) : ∃ lane, lane < 3 ∧ c.1 = rasterAddr p lane := by
  simp only [pixelCells, List.mem_cons, List.not_mem_nil, or_false] at h
  rcases h with rfl | rfl | rfl
  · exact ⟨0, by omega, rfl⟩
  · exact ⟨1, by omega, rfl⟩
  · exact ⟨2, by omega, rfl⟩

theorem mem_rasterCells {px : List Rgb} {c : Host.Cell} :
    c ∈ rasterCells px ↔ ∃ p, ∃ h : p < px.length, c ∈ pixelCells p px[p] := by
  simp only [rasterCells, List.mem_flatMap, Prod.exists, List.mem_zipIdx_iff_getElem?, List.getElem?_eq_some_iff]
  constructor
  · rintro ⟨t, p, ⟨h, e⟩, hc⟩; exact ⟨p, h, e ▸ hc⟩
  · rintro ⟨p, h, hc⟩; exact ⟨_, p, ⟨h, rfl⟩, hc⟩

theorem mem_pbufCells {bytes : List Byte} {c : Host.Cell} :
    c ∈ pbufCells bytes ↔ ∃ k, ∃ h : k < bytes.length, c = (pbufAddr k, bytes[k]) := by
  simp only [pbufCells, List.mem_map, Prod.exists, List.mem_zipIdx_iff_getElem?, List.getElem?_eq_some_iff]
  constructor
  · rintro ⟨t, p, ⟨h, e⟩, hc⟩; exact ⟨p, h, e ▸ hc.symm⟩
  · rintro ⟨p, h, rfl⟩; exact ⟨_, p, ⟨h, rfl⟩, rfl⟩

/-- The addresses of a raster block are those of its pixels. -/
theorem rasterCells_touched {px : List Rgb} {c : Host.Cell} (h : c ∈ rasterCells px) : rasterTouched px.length c.1 := by
  obtain ⟨p, hp, hc⟩ := mem_rasterCells.mp h
  obtain ⟨lane, hl, e⟩ := mem_pixelCells hc
  exact ⟨p, lane, hp, hl, e⟩

theorem pbufCells_touched {bytes : List Byte} {c : Host.Cell} (h : c ∈ pbufCells bytes) : pbufTouched bytes.length c.1 := by
  obtain ⟨k, hk, rfl⟩ := mem_pbufCells.mp h
  exact ⟨k, hk, rfl⟩

theorem rasterCells_append (px : List Rgb) (t : Rgb) : rasterCells (px ++ [t]) = rasterCells px ++ pixelCells px.length t := by
  simp [rasterCells, List.zipIdx_append]

theorem rasterCells_nodup (px : List Rgb) : ((rasterCells px).map Prod.fst).Nodup := by
  induction px using List.reverseRecOn with
  | nil => exact List.nodup_nil
  | append_singleton px t ih =>
    rw [rasterCells_append, List.map_append, List.nodup_append]
    refine ⟨ih, by simp [pixelCells, rasterAddr], ?_⟩
    intro a ha b hb hab
    obtain ⟨c, hc, rfl⟩ := List.mem_map.mp ha
    obtain ⟨d, hd, rfl⟩ := List.mem_map.mp hb
    obtain ⟨p, i, hp, hi, e1⟩ := rasterCells_touched hc
    obtain ⟨j, hj, e2⟩ := mem_pixelCells hd
    have := (rasterAddr_inj (by omega) (by omega) ((e1.symm.trans hab).trans e2)).1
    omega

theorem pbufCells_nodup (bytes : List Byte) : ((pbufCells bytes).map Prod.fst).Nodup := by
  have : (pbufCells bytes).map Prod.fst = (List.range bytes.length).map pbufAddr := by
    apply List.ext_getElem <;> simp [pbufCells]
  rw [this]
  exact List.Nodup.map (fun _ _ => pbufAddr_inj) List.nodup_range

/-! ### Reading after a block write -/

/-- A raster block write leaves every byte outside the block alone. -/
theorem State.readByte_writeRaster_outside (s : State) {px : List Rgb} {a : Nat} (h : ¬ rasterTouched px.length a) :
    (s.writeRaster px).readByte a = s.readByte a :=
  State.readByte_storeCells_of_notMem (fun _ hc e => h (by rw [← e]; exact rasterCells_touched hc)) s

theorem State.readByte_writePbuf_outside (s : State) {bytes : List Byte} {a : Nat} (h : ¬ pbufTouched bytes.length a) :
    (s.writePbuf bytes).readByte a = s.readByte a :=
  State.readByte_storeCells_of_notMem (fun _ hc e => h (by rw [← e]; exact pbufCells_touched hc)) s

/-- A written pixel reads back (R67, R70). -/
theorem State.rasterPixel_writeRaster (s : State) (px : List Rgb) {p : Nat} (h : p < px.length) :
    (s.writeRaster px).rasterPixel p = px[p] := by
  have key : ∀ c ∈ pixelCells p px[p], (s.writeRaster px).readByte c.1 = c.2 := fun c hc =>
    State.readByte_storeCells_of_mem (rasterCells_nodup px) (mem_rasterCells.mpr ⟨p, h, hc⟩) s
  simp only [pixelCells, List.forall_mem_cons] at key
  obtain ⟨k0, k1, k2, -⟩ := key
  unfold State.rasterPixel
  rw [k0, k1, k2]

/-- A written byte reads back (R66, R71). -/
theorem State.pbufByte_writePbuf (s : State) (bytes : List Byte) {k : Nat} (h : k < bytes.length) :
    (s.writePbuf bytes).pbufByte k = bytes[k] :=
  State.readByte_storeCells_of_mem (c := (pbufAddr k, bytes[k])) (pbufCells_nodup bytes) (mem_pbufCells.mpr ⟨k, h, rfl⟩) s

/-- A pixel reads alike in two states that read its three bytes alike. -/
theorem State.rasterPixel_congr {s t : State} {p : Nat} (h : ∀ lane < 3, t.readByte (rasterAddr p lane) = s.readByte (rasterAddr p lane)) :
    t.rasterPixel p = s.rasterPixel p := by
  unfold State.rasterPixel
  rw [h 0 (by omega), h 1 (by omega), h 2 (by omega)]

theorem State.rasterPixel_writeRaster_outside (s : State) {px : List Rgb} {p : Nat} (h : px.length ≤ p) :
    (s.writeRaster px).rasterPixel p = s.rasterPixel p := by
  apply State.rasterPixel_congr
  intro lane hl
  apply State.readByte_writeRaster_outside
  rintro ⟨q, j, hq, hj, e⟩
  have := (rasterAddr_inj (by omega) (by omega) e).1
  omega

/-- A redrawn raster range is of the new draw; the rest stands (R210, R241). -/
theorem State.rasterPixel_redrawRaster (s : State) {n p : Nat} (h : p < n) :
    (s.redrawRaster n).rasterPixel p = drawnPixel s.draws p := by
  have := State.rasterPixel_writeRaster s ((List.range n).map (drawnPixel s.draws)) (p := p) (by simpa using h)
  simp only [List.getElem_map, List.getElem_range] at this
  exact this

theorem State.readByte_redrawRaster_outside (s : State) {n a : Nat} (h : ¬ rasterTouched n a) :
    (s.redrawRaster n).readByte a = s.readByte a := by
  have := State.readByte_writeRaster_outside s (px := (List.range n).map (drawnPixel s.draws)) (a := a) (by simpa using h)
  exact this

theorem State.pbufByte_redrawPbuf (s : State) {n k : Nat} (h : k < n) :
    (s.redrawPbuf n).pbufByte k = drawnByte s.draws k := by
  have := State.pbufByte_writePbuf s ((List.range n).map (drawnByte s.draws)) (k := k) (by simpa using h)
  simp only [List.getElem_map, List.getElem_range] at this
  exact this

theorem State.readByte_redrawPbuf_outside (s : State) {n a : Nat} (h : ¬ pbufTouched n a) :
    (s.redrawPbuf n).readByte a = s.readByte a := by
  have := State.readByte_writePbuf_outside s (bytes := (List.range n).map (drawnByte s.draws)) (a := a) (by simpa using h)
  exact this

end Sys2Proof.Machine
end

