-- ==== Sys2Proof/Laws/Ops.lean ====
section
/-! SUPPORT. What each shared operation can do, said once: completion, recording and raising an error, the geometry check,
soft reset's abandoned memory, the windows of the bus. -/

namespace Sys2Proof.Machine

/-! ### Completion -/

theorem CommandKeeps.refl (s : State) : CommandKeeps s s := ⟨rfl, rfl, rfl, rfl, rfl, rfl⟩

theorem CommandKeeps.trans {s t u : State} (h : CommandKeeps s t) (k : CommandKeeps t u) : CommandKeeps s u :=
  ⟨k.cfg.trans h.cfg, k.ie.trans h.ie, k.lastcmd.trans h.lastcmd, k.geom.trans h.geom, k.answer.trans h.answer,
   k.turns.trans h.turns⟩

/-- Completion completes, whatever the command wrote before it among what commands may write (R183). -/
theorem completes_complete {s u : State} (h : CommandKeeps s u) : Completes s u.complete :=
  ⟨State.busy_complete u, by simp, by simp, by simp, by simp, by
    obtain ⟨h1, h2, h3, h4, h5, h6⟩ := h
    exact ⟨by simpa using h1, by simpa using h2, by simpa using h3, by simpa using h4, by simpa using h5, by simpa using h6⟩⟩

/-- A command that stored nothing keeps memory at completion (R183). -/
theorem memoryKept_complete {s u : State} (hm : u.mem = s.mem) (hd : u.memDraw = s.memDraw) : MemoryKept s u.complete :=
  fun a => (State.readByte_complete u a).trans (State.readByte_congr hm hd a)

theorem CommandKeeps.settle (s : State) : CommandKeeps s s.settle := by constructor <;> simp

/-- What the end of a frame command does to memory (R246). -/
theorem memoryKeptOutside_settle {touched : Nat → Prop} {s u : State} (hx : u.disturbed = s.disturbed)
    (hn : s.draws ≤ u.draws) (h : s.disturbed = false → ∀ a, ¬ touched a → u.readByte a = s.readByte a) :
    MemoryKeptOutside touched s u.settle := by
  refine ⟨fun hs a ha => ?_, fun hs => ⟨u.draws, hn, ?_, fun a => ?_⟩⟩
  · rw [State.readByte_settle (hx.trans hs), h hs a ha]
  · simp [hx, hs]
  · exact State.readByte_settle_disturbed (hx.trans hs) a

/-! ### Errors -/

theorem commandKeeps_record (s : State) (e : ErrCode) (info : Word) : CommandKeeps s (s.record e info) := by
  constructor <;> simp

/-- Recording: the first error is kept (R209). -/
theorem errorRecorded_record (s : State) (e : ErrCode) (info : Word) : ErrorRecorded e info s (s.record e info) := by
  unfold ErrorRecorded ErrorKept
  split <;> simp_all

/-- A command that raises before it wrote anything aborts with all else unchanged (R209, R210). -/
theorem abortsUntouched_raise (s : State) (e : ErrCode) (info : Word) : AbortsUntouched e info s (s.raise e info) := by
  refine ⟨completes_complete (commandKeeps_record s e info), ?_, ?_, ?_, ?_⟩
  · have := errorRecorded_record s e info
    unfold ErrorRecorded ErrorKept at this ⊢
    simpa [State.raise] using this
  · simp [ResultsKept, State.raise]
  · exact memoryKept_complete (by simp) (by simp)
  · simp [State.raise]

/-! ### The geometry check -/

/-- A frame command under a legal geometry runs its body (R182). -/
theorem State.framed_ok {s : State} {wl hl : BitVec 16} (hg : s.latchedGeometry = (wl, hl))
    (h : geometryOk s.cfg wl hl = true) (body : Nat → Nat → State) : s.framed body = body wl.toNat hl.toNat := by
  unfold State.framed; rw [hg]; simp [h]

/-- A frame command under any other geometry raises BAD_GEOMETRY (R205). -/
theorem State.framed_bad {s : State} {wl hl : BitVec 16} (hg : s.latchedGeometry = (wl, hl))
    (h : geometryOk s.cfg wl hl = false) (body : Nat → Nat → State) :
    s.framed body = s.raise .badGeometry (geometryInfo wl hl) := by
  unfold State.framed; rw [hg]; simp [h]

/-- The geometry check, as numbers (R205). -/
theorem geometryOk_iff {c : Config} {wl hl : BitVec 16} :
    geometryOk c wl hl = true ↔ 1 ≤ wl.toNat ∧ wl.toNat ≤ c.maxW ∧ 1 ≤ hl.toNat ∧ hl.toNat ≤ c.maxH := by
  simp [geometryOk, and_assoc]

/-- No frame command reaches past either memory (R72). -/
theorem frame_within_capacity {c : Config} {wl hl : BitVec 16} (h : geometryOk c wl hl = true) :
    wl.toNat * hl.toNat ≤ c.rasterWords ∧ bufferLength wl.toNat hl.toNat ≤ c.pbufBytes := by
  obtain ⟨-, h2, -, h4⟩ := geometryOk_iff.mp h
  refine ⟨Nat.mul_le_mul h2 h4, Nat.mul_le_mul h4 ?_⟩
  unfold bytesPerRow
  omega

/-! ### Nibbles and bytes -/

/-- A nibble of 0 to 7 is that index (R150). -/
theorem nibbleIndex_of_lt {n : Nibble} (h : n.toNat < 8) : nibbleIndex n = some (n.setWidth 3) := if_pos h

/-- A nibble of 8 to 15 is no index (R204). -/
theorem nibbleIndex_of_ge {n : Nibble} (h : 8 ≤ n.toNat) : nibbleIndex n = none := if_neg (by omega)

theorem nibbleIndex_eq_some {n : Nibble} {i : Index} (h : nibbleIndex n = some i) : n.toNat = i.toNat := by
  unfold nibbleIndex at h
  split at h
  · rename_i hlt
    rw [← Option.some.inj h, BitVec.toNat_setWidth]
    omega
  · cases h

/-- The packed byte as a number, (a << 4) OR b (R151). -/
theorem packByte_toNat (a b : Index) : (packByte a b).toNat = 16 * a.toNat + b.toNat := by
  revert a b; decide

theorem nibbleIndex_highNibble_packByte (a b : Index) : nibbleIndex (highNibble (packByte a b)) = some a := by
  revert a b; decide

theorem nibbleIndex_lowNibble_packByte (a b : Index) : nibbleIndex (lowNibble (packByte a b)) = some b := by
  revert a b; decide

/-! ### Bus windows -/

theorem State.windowRead_idle {s : State} (h : s.busy = false) (v : Word) : s.windowRead v = s.answerRead v := by
  unfold State.windowRead; simp [h]

theorem State.windowRead_busy {s : State} (h : s.busy = true) (v : Word) :
    s.windowRead v = { s.answerRead (Config.freeWord s.draws) with draws := s.draws + 1 } := by
  unfold State.windowRead; simp [h]

theorem State.windowWrite_idle {s : State} (h : s.busy = false) (cells : List Host.Cell) :
    s.windowWrite cells = (s.storeCells cells).answerWrite := by
  unfold State.windowWrite; simp [h]

theorem State.windowWrite_busy {s : State} (h : s.busy = true) (cells : List Host.Cell) :
    s.windowWrite cells = { s.redrawAll with disturbed := true }.answerWrite := by
  unfold State.windowWrite; simp [h]

/-- What a soft reset abandons (R241): nothing while IDLE. -/
theorem State.abandon_idle {s : State} (h : s.phase = .idle) : s.abandon = s := by
  unfold State.abandon; rw [h]

/-! ### Steps -/

/-- A step of a well-formed block is its next turn. -/
theorem step_eq_turnStep {s : State} (h : s.cfg.wf = true) : step s = s.turnStep := by
  unfold Config.wf at h
  rw [Bool.and_eq_true] at h
  unfold step
  rw [if_pos h.1, if_pos h.2]

/-- With an engine step due, the step is the engine's completing step on the state with that turn taken. -/
theorem turnStep_of_engineDue {s : State} {rest : List Turn} (h : EngineDue s rest) :
    s.turnStep = { s with turns := rest }.engineStep := by
  rcases h with h | ⟨h, rfl⟩
  · unfold State.turnStep; rw [h]; rfl
  · have : { s with turns := [] } = s := by cases s; simp_all
    rw [this]; unfold State.turnStep; rw [h]

/-- The engine's completing step answers a next state or is `exec` of the decoded command (R182). -/
theorem engineStep_cases (s : State) :
    (s.phase = .idle ∧ s.engineStep = .next s) ∨
    (∃ w wl hl e, s.phase = .running w wl hl ∧ decode w = .error e ∧ s.engineStep = .next (s.raise (decodeErrCode e) w)) ∨
    (∃ w wl hl i, s.phase = .running w wl hl ∧ decode w = .command i ∧ s.engineStep = exec i s) := by
  unfold State.engineStep
  split
  · exact .inl ⟨by assumption, rfl⟩
  · rename_i w wl hl hp
    split
    · rename_i e he; exact .inr (.inl ⟨w, wl, hl, e, hp, he, rfl⟩)
    · rename_i i hi; exact .inr (.inr ⟨w, wl, hl, i, hp, hi, rfl⟩)

end Sys2Proof.Machine
end

