-- ==== Sys2Proof/Laws/Bus.lean ====
section
/-! SUPPORT. What a host transaction can do, said once. -/

namespace Sys2Proof.Machine

/-- The alignment check as a number (R63). -/
theorem misaligned_iff (off : Offset) : misaligned off = true ↔ off.toNat % 4 ≠ 0 := by
  simp only [misaligned, bne_iff_ne, ne_eq, ← BitVec.toNat_inj]
  simp

theorem misaligned_eq_false {off : Offset} (h : off.toNat % 4 = 0) : misaligned off = false := by
  rw [← Bool.not_eq_true, misaligned_iff]; simpa using h

/-- The address map (R62), region by region. -/
theorem regionOf_cases (off : Offset) :
    (off.toNat < 0x40 ∧ regionOf off = .register (regAt (off.toNat / 4))) ∨
    (0x40 ≤ off.toNat ∧ off.toNat < 0x100000 ∧ regionOf off = .reserved) ∨
    (0x100000 ≤ off.toNat ∧ off.toNat < 0x200000 ∧ regionOf off = .pbuf ((off.toNat - 0x100000) / 4)) ∨
    (0x200000 ≤ off.toNat ∧ off.toNat < 0x400000 ∧ regionOf off = .raster ((off.toNat - 0x200000) / 4)) ∨
    (0x400000 ≤ off.toNat ∧ regionOf off = .unmapped) := by
  unfold regionOf
  simp only
  (repeat' split) <;> simp_all

/-- The register at a register's own offset is that register (R20). -/
theorem regAt_regOffset (r : Reg) : regAt (regOffset r / 4) = r := by
  cases r with
  | pal i => revert i; decide
  | _ => rfl

/-- What a read can do: it answers BUS_ERROR, or a value, or, in a memory window while BUSY, a free value. -/
theorem State.hostRead_cases (s : State) (off : Offset) :
    s.hostRead off = s.readError ∨ (∃ v, s.hostRead off = s.answerRead v) ∨
    (s.busy = true ∧ 0x100000 ≤ off.toNat ∧ off.toNat < 0x400000 ∧
      s.hostRead off = { s.answerRead (Config.freeWord s.draws) with draws := s.draws + 1 }) := by
  unfold State.hostRead
  split
  · exact .inl rfl
  · rcases regionOf_cases off with ⟨-, h⟩ | ⟨-, -, h⟩ | ⟨h1, h2, h⟩ | ⟨h1, h2, h⟩ | ⟨-, h⟩ <;> rw [h] <;> dsimp only
    · exact .inr (.inl ⟨_, rfl⟩)
    · exact .inr (.inl ⟨_, rfl⟩)
    · split
      · exact .inl rfl
      · cases hb : s.busy
        · exact .inr (.inl ⟨_, State.windowRead_idle hb _⟩)
        · exact .inr (.inr ⟨rfl, h1, by omega, State.windowRead_busy hb _⟩)
    · split
      · exact .inl rfl
      · cases hb : s.busy
        · exact .inr (.inl ⟨_, State.windowRead_idle hb _⟩)
        · exact .inr (.inr ⟨rfl, by omega, h2, State.windowRead_busy hb _⟩)
    · exact .inl rfl

/-- The cells of a PBUF word write lie in PBUF (R66). -/
theorem pbufWriteCells_inside {c : Config} {j : Nat} {w : Word} {strb : BitVec 4} {cell : Host.Cell}
    (h : cell ∈ pbufWriteCells c j w strb) : ∃ k, k < c.pbufBytes ∧ cell.1 = pbufAddr k := by
  simp only [pbufWriteCells, List.mem_map, List.mem_filter, List.mem_range, Bool.and_eq_true, decide_eq_true_eq] at h
  obtain ⟨i, ⟨-, -, hk⟩, rfl⟩ := h
  exact ⟨_, hk, rfl⟩

/-- The cells of a RASTER word write are channel lanes of its pixel (R67). -/
theorem rasterWriteCells_inside {p : Nat} {w : Word} {strb : BitVec 4} {cell : Host.Cell}
    (h : cell ∈ rasterWriteCells p w strb) : ∃ lane, lane < 3 ∧ cell.1 = rasterAddr p lane := by
  simp only [rasterWriteCells, List.mem_map, List.mem_filter, List.mem_range] at h
  obtain ⟨i, ⟨hi, -⟩, rfl⟩ := h
  exact ⟨i, hi, rfl⟩

/-- What a write can do: BUS_ERROR, an ignored write, a register write with the full strobe, a store of bytes the memories hold while
IDLE, or both memories drawn anew while BUSY. -/
theorem State.hostWrite_cases (s : State) (off : Offset) (w : Word) (strb : BitVec 4) :
    s.hostWrite off w strb = s.writeError ∨
    s.hostWrite off w strb = s.answerWrite ∨
    (off.toNat < 0x40 ∧ off.toNat % 4 = 0 ∧ strb = 0b1111#4 ∧
      s.hostWrite off w strb = (s.writeReg (regAt (off.toNat / 4)) w).answerWrite) ∨
    (s.busy = false ∧ ∃ cells : List Host.Cell, (∀ cell ∈ cells, holdsByte s.cfg cell.1) ∧
      s.hostWrite off w strb = (s.storeCells cells).answerWrite) ∨
    (s.busy = true ∧ s.hostWrite off w strb = { s.redrawAll with disturbed := true }.answerWrite) := by
  unfold State.hostWrite
  by_cases hm : misaligned off = true
  · rw [if_pos hm]; exact .inl rfl
  · rw [if_neg hm]
    rw [misaligned_iff, not_not] at hm
    rcases regionOf_cases off with ⟨h1, h⟩ | ⟨-, -, h⟩ | ⟨h1, h2, h⟩ | ⟨h1, h2, h⟩ | ⟨-, h⟩ <;> rw [h] <;> dsimp only
    · split
      · exact .inr (.inr (.inl ⟨h1, hm, by assumption, rfl⟩))
      · exact .inl rfl
    · exact .inr (.inl rfl)
    · split
      · exact .inl rfl
      · cases hb : s.busy
        · exact .inr (.inr (.inr (.inl ⟨rfl, _, fun cell hc => .inl (pbufWriteCells_inside hc),
            State.windowWrite_idle hb _⟩)))
        · exact .inr (.inr (.inr (.inr ⟨rfl, State.windowWrite_busy hb _⟩)))
    · split
      · exact .inl rfl
      · cases hb : s.busy
        · refine .inr (.inr (.inr (.inl ⟨rfl, _, fun cell hc => .inr ?_, State.windowWrite_idle hb _⟩)))
          obtain ⟨lane, hl, e⟩ := rasterWriteCells_inside hc
          exact ⟨_, lane, by omega, hl, e⟩
        · exact .inr (.inr (.inr (.inr ⟨rfl, State.windowWrite_busy hb _⟩)))
    · exact .inl rfl

end Sys2Proof.Machine
end

