-- ==== Sys2Proof/Laws/PerInstr.lean ====
section
/-! SUPPORT. Statements made per command: a family's Statement and one lemma per constructor of Instr. -/

namespace Sys2Proof.Laws

/-- The encoded word has exactly its row's fixed bits (spec/30_encoding.md R93). -/
def EncodeMatchesRow.Statement (i : Instr) : Prop := matchesRow (encode i) (opcodeRow i) = true

end Sys2Proof.Laws

namespace Sys2Proof.Laws.EncodeMatchesRow

theorem nop : Statement .nop := by unfold Statement; decide

theorem quant (r g b : Byte) : Statement (.quant r g b) := by
  simp only [Statement, matchesRow, encode, opcodeRow, beq_iff_eq]
  ext i hi
  simp only [BitVec.getElem_and, BitVec.getElem_append]
  interval_cases i <;> simp

theorem lut (idx : Nibble) : Statement (.lut idx) := by
  revert idx; unfold Statement; decide

theorem pack2 (a b : Index) : Statement (.pack2 a b) := by
  revert a b; unfold Statement; decide

theorem pack2Dup (a : Index) : Statement (.pack2Dup a) := by
  revert a; unfold Statement; decide

theorem unpack1 (byte : Byte) : Statement (.unpack1 byte) := by
  simp only [Statement, matchesRow, encode, opcodeRow, beq_iff_eq]
  ext i hi
  simp only [BitVec.getElem_and, BitVec.getElem_append]
  interval_cases i <;> simp

theorem dither : Statement .dither := by unfold Statement; decide

theorem pack : Statement .pack := by unfold Statement; decide

theorem unpack : Statement .unpack := by unfold Statement; decide

end Sys2Proof.Laws.EncodeMatchesRow
end

