-- ==== Sys2Proof/Tests/Slice0.lean ====
section
/-! SUPPORT. The model's own tests. Expected values are the vectors of spec/95_test_vectors.md (named in the comments), or worked by
hand from the cited rule. The second part shows, for every statement with hypotheses, a state and operands that meet them. -/

namespace Sys2Proof.Tests

open Sys2Proof.Machine

/-! ### The checks refuse what they should (R6, R111, R98) -/

theorem test_default_config_wf : Config.default.wf = true := by decide
theorem test_refuses_fracBits_9 : (Config.inRange { Config.default with fracBits := 9 }) = false := by decide
theorem test_refuses_maxW_0 : (Config.inRange { Config.default with maxW := 0 }) = false := by decide
theorem test_refuses_maxW_4096 : (Config.inRange { Config.default with maxW := 4096, maxH := 1 }) = false := by decide
theorem test_refuses_maxH_0 : (Config.inRange { Config.default with maxH := 0 }) = false := by decide
theorem test_refuses_maxH_4096 : (Config.inRange { Config.default with maxW := 1, maxH := 4096 }) = false := by decide
theorem test_refuses_large_area : (Config.inRange { Config.default with maxW := 4095, maxH := 4095 }) = false := by decide

/-- A configuration whose entries 1 and 4 are equal. -/
def equalEntries : Config := { Config.default with palette := Config.defaultPalette.set 4 ⟨0xFF, 0xFF, 0xFF⟩ }

theorem test_refuses_equal_entries : equalEntries.wf = false := by decide
theorem test_asm_refuses_quantWord : (AsmCommand.quantWord 0x1000000).wf = false := by decide
theorem test_asm_refuses_quant_r : (AsmCommand.quant 256 0 0).wf = false := by decide
theorem test_asm_refuses_quant_g : (AsmCommand.quant 0 256 0).wf = false := by decide
theorem test_asm_refuses_quant_b : (AsmCommand.quant 0 0 256).wf = false := by decide
theorem test_asm_refuses_lut : (AsmCommand.lut 16).wf = false := by decide
theorem test_asm_refuses_pack2_a : (AsmCommand.pack2 8 0).wf = false := by decide
theorem test_asm_refuses_pack2_b : (AsmCommand.pack2 0 8).wf = false := by decide
theorem test_asm_refuses_pack2Dup : (AsmCommand.pack2Dup 8).wf = false := by decide
theorem test_asm_refuses_unpack1 : (AsmCommand.unpack1 256).wf = false := by decide
theorem test_asm_refuses_raw : (AsmCommand.raw 0x100000000).wf = false := by decide

/-! ### Decoding words written out from R91 and R98 (sections 2.1 to 2.6 of the vectors) -/

theorem test_decode_nop : decode 0x00000000 = .command .nop := by decide
theorem test_decode_quant : decode 0x10084B90 = .command (.quant 8 75 144) := by decide
theorem test_decode_lut : decode 0x2000000F = .command (.lut 15) := by decide
theorem test_decode_pack2 : decode 0x3000001D = .command (.pack2 3 5) := by decide
theorem test_decode_pack2Dup : decode 0x30000070 = .command (.pack2Dup 6) := by decide
theorem test_decode_unpack1 : decode 0x40000014 = .command (.unpack1 0x14) := by decide
theorem test_decode_dither : decode 0x50000000 = .command .dither := by decide
theorem test_decode_pack : decode 0x60000000 = .command .pack := by decide
theorem test_decode_unpack : decode 0x70000000 = .command .unpack := by decide
theorem test_decode_illegal_first : decode 0xF1234567 = .error .illegalOpcode := by decide
theorem test_decode_illegal : decode 0x80000000 = .error .illegalOpcode := by decide
theorem test_decode_rsv : decode 0x11BF0000 = .error .reservedField := by decide
theorem test_decode_nop_bit : decode 0x00000001 = .error .reservedField := by decide
theorem test_decode_lut_bit4 : decode 0x20000010 = .error .reservedField := by decide
theorem test_decode_dup_b : decode 0x30000041 = .error .reservedField := by decide
theorem test_decode_pack2_bit7 : decode 0x30000080 = .error .reservedField := by decide
theorem test_decode_unpack1_bit8 : decode 0x40000100 = .error .reservedField := by decide
theorem test_decode_pack_bit23 : decode 0x60800000 = .error .reservedField := by decide
theorem test_encode_quant : encode (.quant 0xBF 0 0) = 0x10BF0000 := by decide
theorem test_encode_pack2 : encode (.pack2 3 5) = 0x3000001D := by decide
theorem test_encode_pack2Dup : encode (.pack2Dup 6) = 0x30000070 := by decide
theorem test_encode_unpack1 : encode (.unpack1 0x14) = 0x40000014 := by decide
theorem test_rows_do_not_overlap :
    opcodeRows.Pairwise (fun a b => a.pattern &&& b.mask &&& a.mask ≠ b.pattern &&& a.mask) := by decide
theorem test_assemble_pack2 : assemble (.pack2 3 5) = some 0x3000001D := by decide
theorem test_assemble_quantWord : assemble (.quantWord 0xBF0000) = some 0x10BF0000 := by decide
theorem test_decodeTableWord : decodeTableWord 32 0x30000070 = some (.pack2Dup 6) := by decide

/-! ### Small states -/

/-- The block right after reset, under geometry (w, h), with a command accepted. -/
def running (w h : BitVec 16) (i : Instr) : State := ({ State.reset with geom := h ++ w }).accept (encode i)

/-- The same with a raster in RASTER. -/
def withRaster (w h : BitVec 16) (i : Instr) (px : List Rgb) : State := (running w h i).writeRaster px

/-- The same with bytes in PBUF. -/
def withPbuf (w h : BitVec 16) (i : Instr) (bytes : List Byte) : State := (running w h i).writePbuf bytes

/-- What a field of the next state is, if there is a next state. -/
def nextIs {α : Type} [DecidableEq α] (o : Host.Outcome State Fault Refusal) (f : State → α) (v : α) : Bool :=
  match o with
  | .next t => decide (f t = v)
  | .fault _ => false
  | .refused _ => false

/-! ### One step of each command -/

/-- 2.1: (8,75,144) is an exact tie between entries 2 and 3. -/
theorem test_quant_tie : nextIs (exec (.quant 8 75 144) (running 0 0 .nop)) (fun t => (t.result0, t.result1)) (2, 0x00438A1C) := by decide
/-- 2.1: the boundary between Black and Red. -/
theorem test_quant_96 : nextIs (exec (.quant 96 0 0) (running 0 0 .nop)) (fun t => (t.result0, t.result1)) (4, 0x00BF0000) := by decide
/-- 2.2. -/
theorem test_lut_7 : nextIs (exec (.lut 7) (running 0 0 .nop)) (fun t => (t.result0, t.result1)) (0x00C2A4F4, 0) := by decide
/-- 2.2. -/
theorem test_lut_8 : nextIs (exec (.lut 8) (running 0 0 (.lut 8))) (fun t => (t.err, t.errinfo, t.done)) (3, 0x20000008, true) := by decide
/-- 2.5. -/
theorem test_pack2 : nextIs (exec (.pack2 3 5) (running 0 0 .nop)) (fun t => (t.result0, t.result1)) (0x35, 0) := by decide
/-- 2.5. -/
theorem test_pack2Dup : nextIs (exec (.pack2Dup 6) (running 0 0 .nop)) (fun t => (t.result0, t.result1)) (0x66, 0) := by decide
/-- 2.5. -/
theorem test_unpack1 : nextIs (exec (.unpack1 0x14) (running 0 0 .nop)) (fun t => (t.result0, t.result1)) (0x00FFFFFF, 0x00BF0000) := by decide
/-- 2.5. -/
theorem test_unpack1_low : nextIs (exec (.unpack1 0x08) (running 0 0 (.unpack1 0x08))) (fun t => (t.err, t.errinfo)) (3, 0x40000008) := by decide
/-- R184. -/
theorem test_nop : nextIs (exec .nop (running 0 0 .nop)) (fun t => (t.busy, t.done, t.err)) (false, true, 0) := by decide
/-- D-3: the clamp at 0. -/
theorem test_dither_clamp : nextIs (exec .dither (withRaster 2 1 .dither [⟨250, 250, 250⟩, ⟨1, 1, 1⟩]))
    (fun t => (t.rasterPixel 0, t.rasterPixel 1)) (⟨255, 255, 255⟩, ⟨0, 0, 0⟩) := by decide
/-- D-2: every share lands where R135 says. -/
theorem test_dither_2x2 : nextIs (exec .dither (withRaster 2 2 .dither (List.replicate 4 ⟨128, 128, 128⟩)))
    (fun t => [0, 1, 2, 3].map t.rasterPixel)
    [⟨67, 138, 28⟩, ⟨194, 164, 244⟩, ⟨194, 164, 244⟩, ⟨67, 138, 28⟩] := by decide +kernel
/-- N-1: the odd width duplicates. -/
theorem test_pack_odd : nextIs (exec .pack (withRaster 3 1 .pack [⟨191, 0, 0⟩, ⟨0, 0, 0⟩, ⟨191, 0, 0⟩]))
    (fun t => (t.pbufByte 0, t.pbufByte 1)) (0x40, 0x44) := by decide
/-- N-2: PACK quantizes again. -/
theorem test_pack_requantizes : nextIs (exec .pack (withRaster 2 1 .pack [⟨128, 128, 128⟩, ⟨255, 128, 0⟩]))
    (fun t => t.pbufByte 0) 0x26 := by decide
/-- N-5: the padding nibble is ignored. -/
theorem test_unpack_padding : nextIs (exec .unpack (withPbuf 3 1 .unpack [0x14, 0x38]))
    (fun t => (t.rasterPixel 1, t.rasterPixel 2, t.err)) (⟨191, 0, 0⟩, ⟨100, 64, 255⟩, 0) := by decide
/-- N-7: the first bad byte, by its low nibble. -/
theorem test_unpack_bad : nextIs (exec .unpack (withPbuf 4 2 .unpack [0x02, 0x71, 0x17, 0x29]))
    (fun t => (t.err, t.errinfo, t.done)) (3, 3, true) := by decide
/-- D-11: the capacity check, and the ERRINFO of W = 801. -/
theorem test_geometry_check : (geometryOk Config.default 800 480, geometryOk Config.default 801 480,
    geometryOk Config.default 800 481, geometryInfo 801 480) = (true, false, false, 0x01E00321) := by decide
/-- 2.3: the tie rounds away from zero, both ways. -/
theorem test_share : (share 8 1, share (-8) 1, share (-160) 5, share 4080 7) = (1, -1, -50, 1785) := by decide
/-- 2.4 D-2: the working value of (1,0) after (0,0). -/
theorem test_accumulate :
    accumulate Config.default 7 ⟨976, -160, 1600⟩ ⟨2048, 2048, 2048⟩ = ⟨2475, 1978, 2748⟩ := by decide +kernel

/-! ### Steps and transactions (2.6, 2.7, P1, P4) -/

theorem test_step_runs_first_instruction :
    nextIs (step (State.reset.withFetchWord 32 0x10BF0000)) (fun t => (t.result0, t.lastcmd, t.done)) (4, 0x10BF0000, true) := by decide
theorem test_step_illegal_word :
    nextIs (step (State.reset.withFetchWord 32 0xF1234567)) (fun t => (t.err, t.errinfo, t.done)) (1, 0xF1234567, true) := by decide
theorem test_reserved_before_geometry :
    nextIs (step (State.reset.withFetchWord 32 0x5F000000)) (fun t => (t.err, t.errinfo)) (2, 0x5F000000) := by decide
theorem test_caps : (State.reset.hostAccess (.read 0x000)).answer = some (.read 0x141E0320 .ok) := by decide
theorem test_pal3 : (State.reset.hostAccess (.read 0x02C)).answer = some (.read 0x006440FF .ok) := by decide
theorem test_misaligned : (State.reset.hostAccess (.read 0x002)).answer = some (.read 0 .busError) := by decide
theorem test_partial_strobe : (State.reset.hostAccess (.write 0x008 2 0b0011)).answer = some (.write .busError) := by decide
theorem test_last_pbuf_word : (State.reset.hostAccess (.write (0x100000 + 4 * 47999) 0 0b1111)).answer = some (.write .ok) := by decide
theorem test_past_pbuf : (State.reset.hostAccess (.read (0x100000 + 4 * 48000))).answer = some (.read 0 .busError) := by decide
theorem test_past_raster : (State.reset.hostAccess (.read (0x200000 + 4 * 384000))).answer = some (.read 0 .busError) := by decide
theorem test_raster_lane3 : (State.reset.hostAccess (.write 0x200000 0xAB123456 0b1111)).rasterWord 0 = 0x00123456 := by decide
theorem test_pbuf_lanes :
    let t := State.reset.hostAccess (.write 0x100000 0x44332211 0b1111)
    (t.pbufByte 0, t.pbufByte 1, t.pbufByte 2, t.pbufByte 3) = (0x11, 0x22, 0x33, 0x44) := by decide
/-- P4: a CMD write while BUSY. -/
theorem test_rejected :
    let t := (running 1 1 .pack).hostAccess (.write 0x00C 0x10123456 0b1111)
    (t.statusWord, t.errinfo, t.lastcmd) = (0x501, 0x10123456, 0x60000000) := by decide
/-- P4: IE makes irq follow DONE. -/
theorem test_irq_status :
    ({ State.reset with done := true, err := 5 }.hostAccess (.write 0x004 1 0b1111)).statusWord = 0x50A := by decide
/-- R23: the soft reset discards the IE value. -/
theorem test_soft_reset : ((running 1 1 .pack).hostAccess (.write 0x004 3 0b1111)).ie = false := by decide
/-- R100: SETGEOM 4, 2 is WR GEOM, 0x00020004. -/
theorem test_setgeom : lineTurns 0 (.setgeom 4 2) = some [.host (.write 0x010 0x00020004 0b1111)] := by decide

/-! ### The hypotheses of the statements are met -/

theorem witness_wf : (Instr.lut 15).wf = true := by decide
theorem witness_frame_length : ([⟨1, 1, 1⟩, ⟨2, 2, 2⟩] : List Rgb).length = 2 * 1 := by decide
theorem witness_decoded : decode 0x2000000F = .command (.lut 15) := by decide
theorem witness_row : opcodeRow (.lut 0) ∈ opcodeRows ∧ matchesRow 0x2000000F (opcodeRow (.lut 0)) = true := by decide
theorem witness_assembler_refuses : (AsmCommand.lut 16).wf = false ∧ (AsmCommand.raw 0x100000000).wf = false := by decide

/-- StepRunsTheDecodedCommand, both ways an engine step is due. -/
theorem witness_step_runs :
    let s := State.reset.withFetchWord 32 0x10BF0000
    (s.cfg.wf = true ∧ s.phase = .running 0x10BF0000 0 0 ∧ decode 0x10BF0000 = .command (.quant 0xBF 0 0) ∧ EngineDue s []) ∧
    EngineDue (running 1 1 .pack) [] :=
  ⟨⟨by decide, by decide, by decide, .inl rfl⟩, .inr ⟨rfl, rfl⟩⟩

/-- IllegalOpcodeWordAborts at the lowest and the highest opcode. -/
theorem witness_illegal :
    (8 ≤ ((0x80000000 : Word).extractLsb' 28 4).toNat ∧ 8 ≤ ((0xFFFFFFFF : Word).extractLsb' 28 4).toNat) ∧
    (State.reset.withFetchWord 32 0x80000000).phase = .running 0x80000000 0 0 ∧ State.reset.cfg.wf = true ∧
    EngineDue (State.reset.withFetchWord 32 0x80000000) [] :=
  ⟨by decide, by decide, by decide, .inl rfl⟩

/-- ReservedFieldWordAborts at boundary words of each opcode's must-be-zero bits. -/
theorem witness_reserved :
    ∀ w ∈ [0x00000001, 0x08000000, 0x11000000, 0x20000010, 0x30000080, 0x30000041, 0x40000100, 0x50800000, 0x60000001, 0x77000000],
      ((BitVec.ofNat 32 w).extractLsb' 28 4).toNat < 8 ∧ BitVec.ofNat 32 w &&& mustBeZeroMask (BitVec.ofNat 32 w) ≠ 0#32 ∧
      (State.reset.withFetchWord 32 w).phase = .running (BitVec.ofNat 32 w) 0 0 := by decide

theorem witness_idle : State.reset.cfg.wf = true ∧ State.reset.phase = .idle ∧ EngineDue State.reset [] ∧
    ({ State.reset with turns := [.engineWork] } : State).turns = .engineWork :: [] :=
  ⟨by decide, rfl, .inr ⟨rfl, rfl⟩, rfl⟩

theorem witness_turns : State.reset.cfg.wf = true ∧
    ({ State.reset with turns := [.host (.read 0x008)] } : State).turns = .host (.read 0x008) :: [] ∧
    ({ State.reset with turns := [.hardReset] } : State).turns = .hardReset :: [] ∧
    ({ running 1 1 .pack with turns := [.engineWork] } : State).turns = .engineWork :: [] :=
  ⟨by decide, rfl, rfl, rfl⟩

/-- StepRefusesEqualPaletteEntries: two equal entries in a legal range, and none. -/
theorem witness_equal_entries : equalEntries.inRange = true ∧ paletteColour equalEntries 1 = paletteColour equalEntries 4 := by decide

/-- EveryStepKeepsTheInvariant: a state with the invariant whose step answers a next state. -/
theorem witness_invariant : State.reset.Inv ∧ step State.reset = .next State.reset :=
  ⟨⟨by decide, List.Pairwise.nil, by simp [State.reset], by simp [State.reset], by simp [State.reset], by decide,
    by simp [State.reset], by decide, by simp [State.reset], by decide⟩, rfl⟩

theorem witness_constants : step State.reset = .next State.reset := rfl

/-- RunningCommandCompletes: a running command with turns of each harmless kind ahead. -/
theorem witness_completes :
    let s : State := { running 1 1 .pack with turns := [.engineWork, .host (.write 0x00C 0 0b1111), .host (.write 0x004 1 0b1111)] }
    s.cfg.wf = true ∧ s.busy = true ∧ ∀ turn ∈ s.turns, ¬ IsResetTurn turn :=
  ⟨by decide, by decide, by simp [IsResetTurn]⟩

/-- OnlyCompletionSetsDone: a step that sets DONE. -/
theorem witness_sets_done :
    nextIs (step (running 0 0 .nop)) (fun t => t.done) true ∧ (running 0 0 .nop).done = false := by decide

/-- NearestIsTheFirstMinimum: working values at both ends of 0 .. MAXV. -/
theorem witness_working_values : (0 : Nat) ≤ maxWork Config.default ∧ (4080 : Nat) ≤ maxWork Config.default := by decide

theorem witness_palette_distinct : Config.default.paletteDistinct = true := by decide

/-- The nibbles at the ends of both ranges. -/
theorem witness_nibbles : (0 : Nibble).toNat < 8 ∧ (7 : Nibble).toNat < 8 ∧ 8 ≤ (8 : Nibble).toNat ∧ 8 ≤ (15 : Nibble).toNat := by decide
theorem witness_bytes : ((0x77 : Byte).toNat / 16 < 8 ∧ (0x77 : Byte).toNat % 16 < 8) ∧ 8 ≤ (0x80 : Byte).toNat / 16 ∧
    8 ≤ (0x08 : Byte).toNat % 16 := by decide

/-- The frame commands' geometry: the smallest and the largest one, undisturbed. -/
theorem witness_geometry :
    (running 1 1 .dither).phase = .running 0x50000000 1 1 ∧ geometryOk (running 1 1 .dither).cfg 1 1 = true ∧
    geometryOk Config.default 800 480 = true ∧ (running 1 1 .dither).disturbed = false ∧
    (running 1 1 .dither).cfg.paletteDistinct = true ∧ geomWidth (running 1 1 .dither).geom = 1 ∧
    geomHeight (running 1 1 .dither).geom = 1 := by decide

/-- IllegalGeometryAbortsFrameCommand: each bound missed by one. -/
theorem witness_bad_geometry :
    ∀ g ∈ [(0, 1), (801, 1), (1, 0), (1, 481)],
      ¬ (1 ≤ (BitVec.ofNat 16 g.1).toNat ∧ (BitVec.ofNat 16 g.1).toNat ≤ State.reset.cfg.maxW ∧
         1 ≤ (BitVec.ofNat 16 g.2).toNat ∧ (BitVec.ofNat 16 g.2).toNat ≤ State.reset.cfg.maxH) ∧
      (running (BitVec.ofNat 16 g.1) (BitVec.ofNat 16 g.2) .pack).phase =
        .running 0x60000000 (BitVec.ofNat 16 g.1) (BitVec.ofNat 16 g.2) := by decide

theorem witness_frame_command : IsFrameCommand .dither ∧ IsFrameCommand .pack ∧ IsFrameCommand .unpack :=
  ⟨.inl rfl, .inr (.inl rfl), .inr (.inr rfl)⟩

/-- UNPACK of an odd width with an unused bad nibble: every used nibble is good (N-5). -/
theorem witness_good_buffer :
    let s := withPbuf 3 1 .unpack [0x14, 0x38]
    s.cfg.wf = true ∧ s.phase = .running 0x70000000 3 1 ∧ geometryOk s.cfg 3 1 = true ∧ s.disturbed = false ∧
    geomWidth s.geom = 3 ∧ geomHeight s.geom = 1 ∧ GoodByte 3 0 (s.pbufByte 0) ∧ GoodByte 3 1 (s.pbufByte 1) := by
  unfold GoodByte; decide

/-- UNPACK of a buffer whose byte 1 is bad, by its high nibble where the low one is unused (N-6), and whose byte 0 is good. -/
theorem witness_bad_byte :
    let s := withPbuf 3 1 .unpack [0x14, 0x83]
    s.phase = .running 0x70000000 3 1 ∧ geometryOk s.cfg 3 1 = true ∧ ¬ GoodByte 3 1 (s.pbufByte 1) ∧ GoodByte 3 0 (s.pbufByte 0) := by
  unfold GoodByte; decide

/-- An all-palette raster under the latched geometry, which GEOM still holds; PACK and DITHER answer next states. -/
theorem witness_palette_raster :
    let s := withRaster 2 1 .pack [⟨191, 0, 0⟩, ⟨0, 0, 0⟩]
    s.cfg.wf = true ∧ s.phase = .running 0x60000000 2 1 ∧ s.disturbed = false ∧ geomWidth s.geom = 2 ∧ geomHeight s.geom = 1 ∧
    s.rasterPixel 0 = paletteColour s.cfg 4 ∧ s.rasterPixel 1 = paletteColour s.cfg 0 ∧
    nextIs (exec .pack s) (fun t => nextIs (exec .unpack (t.accept (encode .unpack))) (fun u => u.err) 0) true := by decide +kernel

/-- A uniform raster (scenario B in small). -/
theorem witness_uniform_raster :
    let s := withRaster 1 2 .dither [⟨191, 0, 0⟩, ⟨191, 0, 0⟩]
    ∀ p < 2, s.rasterPixel p = paletteColour s.cfg 4 := by decide

/-- PackAfterUnpackRestoresTheBuffer: UNPACK, then PACK, answer next states. -/
theorem witness_pack_after_unpack :
    nextIs (exec .unpack (withPbuf 3 1 .unpack [0x14, 0x38]))
      (fun t => nextIs (exec .pack (t.accept (encode .pack))) (fun u => (u.pbufByte 0, u.pbufByte 1)) (0x14, 0x33)) true := by decide

/-- A running command under geometry (1, 1) has the invariant, whatever memory and results within their bounds it has. -/
theorem running_inv (i : Instr) {m : Memory} (hm : m.wf) (hin : ∀ cell ∈ m, holdsByte Config.default cell.1) {r : Word}
    (hr : r.toNat < 2 ^ 24) (b : Bool) : ({ running 1 1 i with mem := m, result0 := r, ie := b } : State).Inv where
  cfg_wf := test_default_config_wf
  mem_wf := hm
  mem_inside := hin
  running := by
    intro w wl hl h
    cases h
    exact ⟨rfl, rfl, rfl, rfl, Nat.zero_le _⟩
  idle := nofun
  err_known := Nat.zero_le _
  err_none := fun _ => rfl
  results := ⟨hr, Nat.two_pow_pos 24⟩
  work_bound := nofun
  draws := Nat.zero_lt_one

/-- The cells of RASTER[0] and of PBUF[0]. -/
def smallMemory : Memory := [(0x100000, 0x14), (0x200000, 128), (0x200001, 128), (0x200002, 128)]

theorem smallMemory_inside : ∀ cell ∈ smallMemory, holdsByte Config.default cell.1 := by
  simp only [smallMemory, List.forall_mem_cons, List.not_mem_nil, false_imp_iff, implies_true, and_true]
  exact ⟨.inl ⟨0, by decide, rfl⟩, .inr ⟨0, 0, by decide, by decide, rfl⟩, .inr ⟨0, 1, by decide, by decide, rfl⟩,
    .inr ⟨0, 2, by decide, by decide, rfl⟩⟩

/-- FrameResultsDependOnMemoryAndGeometryAlone, each clause: two states with the invariant that differ elsewhere, and whose frame
command answers a next state. -/
theorem witness_two_states (i : Instr) (hi : i = .dither ∨ i = .pack ∨ i = .unpack) :
    let s : State := { running 1 1 i with mem := smallMemory, result0 := 0, ie := false }
    let s' : State := { running 1 1 i with mem := smallMemory, result0 := 1, ie := true }
    s.Inv ∧ s'.Inv ∧ s.cfg = s'.cfg ∧ s.phase = .running (encode i) 1 1 ∧ s'.phase = .running (encode i) 1 1 ∧
    s.disturbed = false ∧ s'.disturbed = false ∧ s.err = 0 ∧ s'.err = 0 ∧ s.rasterPixel 0 = s'.rasterPixel 0 ∧
    s.pbufByte 0 = s'.pbufByte 0 ∧ s ≠ s' ∧
    nextIs (exec i s) (fun t => (t.done, t.err)) (true, 0) ∧ nextIs (exec i s') (fun t => (t.done, t.err)) (true, 0) := by
  refine ⟨running_inv i (by unfold smallMemory; decide) smallMemory_inside (by decide) _,
    running_inv i (by unfold smallMemory; decide) smallMemory_inside (by decide) _, rfl, rfl, rfl, rfl, rfl, rfl, rfl, rfl, rfl,
    fun h => Bool.noConfusion (congrArg State.ie h), ?_⟩
  rcases hi with rfl | rfl | rfl <;> decide

theorem witness_error_held : ({ State.reset with err := 4 } : State).err ≠ 0#4 ∧ State.reset.err = 0#4 := by decide
theorem witness_busy : (running 1 1 .pack).busy = true ∧ State.reset.busy = false := by decide

/-- BusErrorExactlyWhereStatedAndWithoutEffect: each ground, and an offset just inside each region. -/
theorem witness_bus_error :
    (∀ off ∈ [0x000001, 0x100000 + 192000, 0x200000 + 4 * 384000, 0x400000], GetsBusError Config.default (.read (BitVec.ofNat 23 off))) ∧
    GetsBusError Config.default (.write 0x03C 0 0b0111) ∧ ¬ GetsBusError Config.default (.write 0x040 0 0b0111) ∧
    (∀ off ∈ [0x03C, 0x0FFFFC, 0x100000 + 191996, 0x200000 + 4 * 383999], ¬ GetsBusError Config.default (.read (BitVec.ofNat 23 off))) := by
  unfold GetsBusError; decide

theorem witness_reserved_space : ∀ off ∈ [0x40, 0x0FFFFC],
    (BitVec.ofNat 23 off).toNat % 4 = 0 ∧ 0x40 ≤ (BitVec.ofNat 23 off).toNat ∧ (BitVec.ofNat 23 off).toNat < 0x100000 := by decide

/-- The last word of each window. -/
theorem witness_windows : State.reset.cfg.wf = true ∧ State.reset.busy = false ∧ 4 * 47999 < State.reset.cfg.pbufBytes ∧ 383999 < State.reset.cfg.rasterWords := by decide

/-- BusyMemoryAccessIsUnspecified: the first and the last word of each window. -/
theorem witness_busy_windows :
    (∀ off ∈ [0x100000, 0x100000 + 191996], (BitVec.ofNat 23 off).toNat % 4 = 0 ∧ 0x100000 ≤ (BitVec.ofNat 23 off).toNat ∧
      (BitVec.ofNat 23 off).toNat < 0x200000 ∧ (BitVec.ofNat 23 off).toNat - 0x100000 < (running 1 1 .pack).cfg.pbufBytes) ∧
    (∀ off ∈ [0x200000, 0x200000 + 4 * 383999], (BitVec.ofNat 23 off).toNat % 4 = 0 ∧ 0x200000 ≤ (BitVec.ofNat 23 off).toNat ∧
      (BitVec.ofNat 23 off).toNat < 0x400000 ∧ (BitVec.ofNat 23 off).toNat - 0x200000 < 4 * (running 1 1 .pack).cfg.rasterWords) := by
  decide

/-- SoftResetAbandonsTheCommand: SRST set, with IE clear and set; a frame command of each destination and an element command. -/
theorem witness_soft_reset :
    (2 : Word).getLsbD 1 = true ∧ (3 : Word).getLsbD 1 = true ∧
    (running 2 1 .dither).phase = .running 0x50000000 2 1 ∧ (running 2 1 .pack).phase = .running 0x60000000 2 1 ∧
    (running 2 1 .nop).phase = .running 0 2 1 ∧ (running 2 1 .unpack).phase = .running 0x70000000 2 1 := by decide

theorem witness_ctrl : (1 : Word).getLsbD 1 = false := by decide

/-- BlockWorksRightAfterReset: either reset of a state that holds something. -/
theorem witness_after_reset : (running 2 1 .pack).cfg.wf = true ∧ (running 2 1 .pack).softReset.geom = 0 ∧
    (running 2 1 .pack).hardReset.geom = 0 := by decide

/-- WaitEndsWithBusyZero, the clauses of RUN: a command, a raw word that is none, and an operand out of range. -/
theorem witness_run : assemble (.lut 15) = some 0x2000000F ∧ assemble (.raw 0xF1234567) = some 0xF1234567 ∧
    assemble (.lut 16) = none := by decide

theorem witness_wait : State.reset.cfg.wf = true ∧ ({ running 1 1 .nop with turns := waitTurns 2 } : State).turns = waitTurns 2 :=
  ⟨by decide, rfl⟩

/-- A disturbed running command: the host wrote PBUF while PACK ran (R246). -/
theorem witness_disturbed : ((running 1 1 .pack).hostAccess (.write 0x100000 0 0b0001)).disturbed = true ∧
    ((running 1 1 .pack).hostAccess (.write 0x100000 0 0b0001)).busy = true := by decide

end Sys2Proof.Tests
end

section
/-! PROOFS. The terms the invariant's proof needs: how many pixels and bytes a frame command produces, and the range of the
working values of a dither (spec/41_dither.md R130 to R136, spec/42_nibble.md R154, R155). -/

namespace Sys2Proof.Machine

/-! ### The range of working values (R130) -/

/-- A working pixel each of whose channels is in 0 .. MAXV (R130). -/
def WorkPixel.InRange (c : Config) (v : WorkPixel) : Prop := v.r ≤ maxWork c ∧ v.g ≤ maxWork c ∧ v.b ≤ maxWork c

/-- Every entry of WORK is in 0 .. MAXV (R130). -/
def WorkInRange (c : Config) (work : List WorkPixel) : Prop := ∀ v ∈ work, v.InRange c

theorem byte_scaled_le_maxWork (c : Config) (x : Byte) : x.toNat * 2 ^ c.fracBits ≤ maxWork c :=
  Nat.mul_le_mul_right _ (Nat.le_of_lt_succ x.isLt)

theorem loadWork_inRange (c : Config) (t : Rgb) : (loadWork c t).InRange c :=
  ⟨byte_scaled_le_maxWork c _, byte_scaled_le_maxWork c _, byte_scaled_le_maxWork c _⟩

theorem scaledColour_inRange (c : Config) (i : Index) : (scaledColour c i).InRange c := loadWork_inRange c (paletteColour c i)

theorem clampWork_le (maxv : Nat) (x : Int) : clampWork maxv x ≤ maxv := by
  unfold clampWork
  (repeat' split) <;> omega

/-- An accumulation clamps whatever it is added to (R136). -/
theorem accumulate_inRange (c : Config) (w : Nat) (e : ErrorTriple) (v : WorkPixel) : (accumulate c w e v).InRange c :=
  ⟨clampWork_le _ _, clampWork_le _ _, clampWork_le _ _⟩

theorem WorkInRange.set {c : Config} {work : List WorkPixel} (h : WorkInRange c work) (p : Nat) {v : WorkPixel}
    (hv : v.InRange c) : WorkInRange c (work.set p v) := by
  intro u hu
  rcases List.mem_or_eq_of_mem_set hu with hu | rfl
  · exact h u hu
  · exact hv

theorem WorkInRange.diffuse {c : Config} {work : List WorkPixel} (h : WorkInRange c work) {W H : Nat} {nx ny : Int} {w : Nat}
    {e : ErrorTriple} : WorkInRange c (diffuse c W H nx ny w e work) := by
  unfold Machine.diffuse
  split
  · exact h
  · intro u hu
    obtain ⟨p, hp, rfl⟩ := List.mem_iff_getElem.mp hu
    rw [List.getElem_modify]
    split
    · exact accumulate_inRange c w e _
    · exact h _ (List.getElem_mem _)

theorem WorkInRange.diffuseAll {c : Config} {work : List WorkPixel} (h : WorkInRange c work) {W H x y : Nat} {e : ErrorTriple} :
    WorkInRange c (diffuseAll c W H x y e work) :=
  h.diffuse.diffuse.diffuse.diffuse

theorem ditherPixel_work_inRange {c : Config} {W H : Nat} {d : DitherState} (h : WorkInRange c d.work) (xy : Nat × Nat) :
    WorkInRange c (ditherPixel c W H d xy).work :=
  (h.set _ (scaledColour_inRange c _)).diffuseAll

/-- Every working value a dither leaves is in 0 .. MAXV (R130, R136). -/
theorem ditherFrame_work_inRange (c : Config) (W H : Nat) (px : List Rgb) : WorkInRange c (ditherFrame c W H px).work := by
  unfold ditherFrame
  refine List.foldlRecOn (motive := fun d : DitherState => WorkInRange c d.work) _ _ ?_
    (fun _ hd xy _ => ditherPixel_work_inRange hd xy)
  intro v hv
  obtain ⟨t, -, rfl⟩ := List.mem_map.mp hv
  exact loadWork_inRange c t

/-! ### Row-major orders and the lengths of frames (R72, R132, R154, R155) -/

theorem pixelOrder_length (W H : Nat) : (pixelOrder W H).length = W * H := by
  simp [pixelOrder, Nat.mul_comm]

theorem byteOrder_length (W H : Nat) : (byteOrder W H).length = bufferLength W H := by
  simp [byteOrder, bufferLength]

theorem byteOrder_succ (W H : Nat) :
    byteOrder W (H + 1) = byteOrder W H ++ (List.range (bytesPerRow W)).map (fun j => (j, H)) := by
  simp [byteOrder, List.range_succ]

/-- Each pixel of a dither puts out one colour (R133). -/
theorem foldl_ditherPixel_out_length (c : Config) (W H : Nat) (order : List (Nat × Nat)) (d : DitherState) :
    (order.foldl (ditherPixel c W H) d).out.length = d.out.length + order.length := by
  induction order generalizing d with
  | nil => rfl
  | cons xy order ih =>
    rw [List.foldl_cons, ih]
    simp only [ditherPixel, List.length_append, List.length_cons, List.length_nil]
    omega

theorem ditherFrame_out_length (c : Config) (W H : Nat) (px : List Rgb) : (ditherFrame c W H px).out.length = W * H := by
  unfold ditherFrame
  rw [foldl_ditherPixel_out_length, pixelOrder_length]
  exact Nat.zero_add _

theorem packFrame_length (c : Config) (W H : Nat) (raster : Nat → Rgb) : (packFrame c W H raster).length = bufferLength W H := by
  unfold packFrame
  rw [List.length_map, byteOrder_length]

/-- How many pixels byte j of a row of W pixels holds: the last byte of an odd row holds one (R71, R155). -/
def pixelsInByte (W j : Nat) : Nat := if 2 * j + 1 < W then 2 else 1

theorem unpackedPixels_length {c : Config} {W j : Nat} {x : Byte} {px : List Rgb} (h : unpackedPixels c W j x = some px) :
    px.length = pixelsInByte W j := by
  unfold unpackedPixels at h
  unfold pixelsInByte
  split at h
  · cases h
  · split at h
    · rename_i hlow
      split at h
      · cases h
      · cases h; rw [if_pos hlow]; rfl
    · rename_i hlow
      cases h; rw [if_neg hlow]; rfl

/-- An unpacking that meets no bad byte puts out the pixels of every byte (R155). -/
theorem unpackBytes_length {c : Config} {W : Nat} {pbuf : Nat → Byte} {order : List (Nat × Nat)} {px : List Rgb}
    (h : unpackBytes c W pbuf order = .pixels px) : px.length = (order.map (fun jy => pixelsInByte W jy.1)).sum := by
  induction order generalizing px with
  | nil => cases h; rfl
  | cons jy order ih =>
    unfold unpackBytes at h
    dsimp only at h
    split at h
    · cases h
    · rename_i first hfirst
      split at h
      · cases h
      · rename_i more hmore
        cases h
        rw [List.length_append, unpackedPixels_length hfirst, ih hmore, List.map_cons, List.sum_cons]

/-- The first n bytes of a row hold 2n pixels, but no more than the row has. -/
theorem sum_pixelsInByte {W n : Nat} (h : n ≤ bytesPerRow W) : ((List.range n).map (pixelsInByte W)).sum = min (2 * n) W := by
  induction n with
  | zero => simp
  | succ n ih =>
    rw [List.range_succ, List.map_append, List.sum_append, ih (by omega)]
    unfold bytesPerRow at h
    simp only [List.map_cons, List.map_nil, List.sum_cons, List.sum_nil, pixelsInByte]
    split <;> omega

theorem sum_pixelsInByte_row (W : Nat) : ((List.range (bytesPerRow W)).map (pixelsInByte W)).sum = W := by
  rw [sum_pixelsInByte (Nat.le_refl _)]
  unfold bytesPerRow
  omega

theorem sum_pixelsInByte_frame (W H : Nat) : ((byteOrder W H).map (fun jy => pixelsInByte W jy.1)).sum = W * H := by
  induction H with
  | zero => rfl
  | succ H ih =>
    rw [byteOrder_succ, List.map_append, List.sum_append, ih, List.map_map, Nat.mul_succ]
    exact congrArg (W * H + ·) (sum_pixelsInByte_row W)

theorem unpackFrame_length {c : Config} {W H : Nat} {pbuf : Nat → Byte} {px : List Rgb}
    (h : unpackFrame c W H pbuf = .pixels px) : px.length = W * H :=
  (unpackBytes_length h).trans (sum_pixelsInByte_frame W H)

end Sys2Proof.Machine
end

section
/-! PROOFS. Each operation of the block keeps the invariant: one rule per operation, the steps of the engine and of the host put
together from them. -/

namespace Sys2Proof.Machine

variable {s : State}

/-! ### The model's own records -/

theorem State.Inv.withTurns (h : s.Inv) (rest : List Turn) : ({ s with turns := rest } : State).Inv := { h with }

theorem State.Inv.withAnswer (h : s.Inv) (a : Option Answer) : ({ s with answer := a } : State).Inv := { h with }

theorem State.Inv.nextDraw (h : s.Inv) : ({ s with draws := s.draws + 1 } : State).Inv :=
  { h with draws := Nat.lt_succ_of_lt h.draws }

/-! ### Memory -/

theorem State.Inv.storeCells (h : s.Inv) {cells : List Host.Cell} (hin : ∀ cell ∈ cells, holdsByte s.cfg cell.1) :
    (s.storeCells cells).Inv :=
  { h with
    mem_wf := State.storeCells_mem_wf h.mem_wf cells
    mem_inside := fun cell hc => (Memory.mem_storeAll hc).elim (hin cell) (h.mem_inside cell) }

theorem State.Inv.writeRaster (h : s.Inv) {px : List Rgb} (hlen : px.length ≤ s.cfg.rasterWords) : (s.writeRaster px).Inv := by
  refine h.storeCells fun cell hc => ?_
  obtain ⟨p, lane, hp, hlane, e⟩ := rasterCells_touched hc
  exact .inr ⟨p, lane, by omega, hlane, e⟩

theorem State.Inv.writePbuf (h : s.Inv) {bytes : List Byte} (hlen : bytes.length ≤ s.cfg.pbufBytes) :
    (s.writePbuf bytes).Inv := by
  refine h.storeCells fun cell hc => ?_
  obtain ⟨k, hk, e⟩ := pbufCells_touched hc
  exact .inl ⟨k, by omega, e⟩

theorem State.Inv.redrawAll (h : s.Inv) : s.redrawAll.Inv :=
  { h with
    mem_wf := State.redrawAll_mem_wf s
    mem_inside := fun _ hc => absurd hc List.not_mem_nil
    draws := Nat.lt_succ_self s.draws }

theorem State.Inv.redrawRaster (h : s.Inv) {n : Nat} (hn : n ≤ s.cfg.rasterWords) : (s.redrawRaster n).Inv :=
  (h.writeRaster (px := (List.range n).map (drawnPixel s.draws)) (by simpa using hn)).nextDraw

theorem State.Inv.redrawPbuf (h : s.Inv) {n : Nat} (hn : n ≤ s.cfg.pbufBytes) : (s.redrawPbuf n).Inv :=
  (h.writePbuf (bytes := (List.range n).map (drawnByte s.draws)) (by simpa using hn)).nextDraw

theorem State.Inv.settle (h : s.Inv) : s.settle.Inv := by
  unfold State.settle
  split
  · exact h.redrawAll
  · exact h

/-- A host write to memory while a command runs (R246). -/
theorem State.Inv.disturb (h : s.Inv) (hb : s.busy = true) : ({ s.redrawAll with disturbed := true } : State).Inv := by
  obtain ⟨w, wl, hl, hp⟩ := State.busy_eq_true.mp hb
  exact { h.redrawAll with idle := fun hi => Phase.noConfusion (hp.symm.trans hi) }

/-! ### Registers, acceptance and completion -/

theorem State.Inv.setResults (h : s.Inv) {r0 r1 : Word} (h0 : r0.toNat < 2 ^ 24) (h1 : r1.toNat < 2 ^ 24) :
    (s.setResults r0 r1).Inv := { h with results := ⟨h0, h1⟩ }

theorem State.Inv.withWork (h : s.Inv) {work : List WorkPixel} (hw : WorkInRange s.cfg work) :
    ({ s with work := work } : State).Inv := { h with work_bound := hw }

theorem State.Inv.clearDone (h : s.Inv) : ({ s with done := false } : State).Inv :=
  { h with
    running := fun w wl hl hp =>
      have ⟨hcmd, _, hwl, hhl, hprog⟩ := h.running w wl hl hp
      ⟨hcmd, rfl, hwl, hhl, hprog⟩ }

theorem State.Inv.clearError (h : s.Inv) : s.clearError.Inv :=
  { h with
    err_known := Nat.zero_le 5
    err_none := fun _ => rfl }

theorem errCode_le (e : ErrCode) : (errCode e).toNat ≤ 5 := by cases e <;> decide

theorem errCode_ne_zero (e : ErrCode) : errCode e ≠ 0#4 := by cases e <;> decide

theorem State.Inv.record (h : s.Inv) (e : ErrCode) (info : Word) : (s.record e info).Inv := by
  unfold State.record
  split
  · exact { h with
      err_known := errCode_le e
      err_none := fun h0 => absurd h0 (errCode_ne_zero e) }
  · exact h

/-- An accepted command starts at progress 0 under the geometry of GEOM (R42, R180). -/
theorem State.Inv.accept (h : s.Inv) (w : Word) : (s.accept w).Inv :=
  { h with
    running := fun _ _ _ hp => by
      cases hp
      exact ⟨rfl, rfl, rfl, rfl, Nat.zero_le _⟩
    idle := fun hi => nomatch hi }

theorem State.Inv.complete (h : s.Inv) : s.complete.Inv :=
  { h with
    running := fun _ _ _ hp => nomatch hp
    idle := fun _ => ⟨rfl, rfl⟩ }

theorem State.Inv.raise (h : s.Inv) (e : ErrCode) (info : Word) : (s.raise e info).Inv := (h.record e info).complete

/-- A frame command keeps the invariant when its body does under every geometry that fits the memories (R72, R182). -/
theorem State.Inv.framed (h : s.Inv) {body : Nat → Nat → State}
    (hbody : ∀ W H, W * H ≤ s.cfg.rasterWords → bufferLength W H ≤ s.cfg.pbufBytes → (body W H).Inv) :
    (s.framed body).Inv := by
  cases hok : geometryOk s.cfg s.latchedGeometry.1 s.latchedGeometry.2 with
  | false => rw [State.framed_bad rfl hok]; exact h.raise _ _
  | true =>
    have ⟨hraster, hpbuf⟩ := frame_within_capacity hok
    rw [State.framed_ok rfl hok]
    exact hbody _ _ hraster hpbuf

/-! ### Resets -/

theorem State.Inv.resetRegisters (h : s.Inv) : s.resetRegisters.Inv :=
  { h with
    running := fun _ _ _ hp => nomatch hp
    idle := fun _ => ⟨rfl, rfl⟩
    err_known := Nat.zero_le 5
    err_none := fun _ => rfl
    results := ⟨Nat.two_pow_pos 24, Nat.two_pow_pos 24⟩ }

theorem State.Inv.hardReset (h : s.Inv) : s.hardReset.Inv :=
  (h.redrawAll.resetRegisters.withWork (work := []) (fun _ hv => absurd hv List.not_mem_nil)).withAnswer none

theorem State.Inv.abandon (h : s.Inv) : s.abandon.Inv := by
  unfold State.abandon
  split
  · exact h
  · split
    · exact h
    · exact h.redrawRaster (Nat.min_le_right _ _)
    · exact h.redrawPbuf (Nat.min_le_right _ _)

theorem State.Inv.softReset (h : s.Inv) : s.softReset.Inv := h.abandon.resetRegisters

/-! ### Host transactions -/

theorem State.Inv.writeCtrl (h : s.Inv) (w : Word) : (s.writeCtrl w).Inv := by
  unfold State.writeCtrl
  split
  · exact h.softReset
  · exact { h with }

theorem State.Inv.writeStatus (h : s.Inv) (w : Word) : (s.writeStatus w).Inv := by
  have hdone : (if w.getLsbD 1 then { s with done := false } else s).Inv := by
    split
    · exact h.clearDone
    · exact h
  unfold State.writeStatus
  dsimp only
  split
  · exact hdone.clearError
  · exact hdone

theorem State.Inv.writeCmd (h : s.Inv) (w : Word) : (s.writeCmd w).Inv := by
  unfold State.writeCmd
  split
  · exact h.record _ w
  · exact h.accept w

/-- GEOM moves only while IDLE, where no geometry is latched (R32, R247). -/
theorem State.Inv.writeGeom (h : s.Inv) (w : Word) : (s.writeGeom w).Inv := by
  unfold State.writeGeom
  cases hb : s.busy with
  | true => exact h
  | false =>
    have hi : s.phase = .idle := State.busy_eq_false.mp hb
    exact { h with running := fun _ _ _ hp => Phase.noConfusion (hi.symm.trans hp) }

theorem State.Inv.writeReg (h : s.Inv) (r : Reg) (w : Word) : (s.writeReg r w).Inv := by
  cases r with
  | ctrl => exact h.writeCtrl w
  | status => exact h.writeStatus w
  | cmd => exact h.writeCmd w
  | geom => exact h.writeGeom w
  | caps | result0 | result1 | errinfo | pal => exact h

theorem State.Inv.hostRead (h : s.Inv) (off : Offset) : (s.hostRead off).Inv := by
  rcases State.hostRead_cases s off with e | ⟨v, e⟩ | ⟨-, -, -, e⟩ <;> rw [e]
  · exact h.withAnswer _
  · exact h.withAnswer _
  · exact (h.withAnswer _).nextDraw

theorem State.Inv.hostWrite (h : s.Inv) (off : Offset) (w : Word) (strb : BitVec 4) : (s.hostWrite off w strb).Inv := by
  rcases State.hostWrite_cases s off w strb with e | e | ⟨-, -, -, e⟩ | ⟨-, cells, hin, e⟩ | ⟨hb, e⟩ <;> rw [e]
  · exact h.withAnswer _
  · exact h.withAnswer _
  · exact (h.writeReg _ w).withAnswer _
  · exact (h.storeCells hin).withAnswer _
  · exact (h.disturb hb).withAnswer _

theorem State.Inv.hostAccess (h : s.Inv) (tx : Transaction) : (s.hostAccess tx).Inv := by
  cases tx with
  | read off => exact h.hostRead off
  | write off w strb => exact h.hostWrite off w strb

/-! ### The commands -/

theorem toNat_append_lt {m n k : Nat} {x : BitVec m} (h : x.toNat < 2 ^ k) (y : BitVec n) :
    (x ++ y).toNat < 2 ^ (k + n) := by
  rw [BitVec.toNat_append]
  refine Nat.or_lt_two_pow ?_ (y.isLt.trans_le (Nat.pow_le_pow_right (by omega) (by omega)))
  rw [Nat.shiftLeft_eq, Nat.pow_add]
  exact Nat.mul_lt_mul_of_pos_right h (Nat.two_pow_pos n)

/-- A colour word has three channels below eight zero bits (R9). -/
theorem paletteWord_lt (c : Config) (i : Index) : (paletteWord c i).toNat < 2 ^ 24 :=
  toNat_append_lt (k := 16) (toNat_append_lt (k := 8) (toNat_append_lt (k := 0) (by decide) _) _) _

theorem toNat_setWidth_lt {n : Nat} (hn : n ≤ 24) (x : BitVec n) : (x.setWidth 32).toNat < 2 ^ 24 := by
  rw [BitVec.toNat_setWidth]
  exact (Nat.mod_le _ _).trans_lt (x.isLt.trans_le (Nat.pow_le_pow_right (by omega) hn))

theorem State.Inv.completeWithResults (h : s.Inv) {r0 r1 : Word} (h0 : r0.toNat < 2 ^ 24) (h1 : r1.toNat < 2 ^ 24) :
    (s.setResults r0 r1).complete.Inv := (h.setResults h0 h1).complete

theorem execLut_keeps_inv (h : s.Inv) (idx : Nibble) : ∃ t, execLut idx s = .next t ∧ t.Inv := by
  unfold execLut
  split
  · exact ⟨_, rfl, h.raise _ _⟩
  · exact ⟨_, rfl, h.completeWithResults (paletteWord_lt _ _) (by decide)⟩

theorem execUnpack1_keeps_inv (h : s.Inv) (x : Byte) : ∃ t, execUnpack1 x s = .next t ∧ t.Inv := by
  unfold execUnpack1
  split
  · exact ⟨_, rfl, h.raise _ _⟩
  · split
    · exact ⟨_, rfl, h.raise _ _⟩
    · exact ⟨_, rfl, h.completeWithResults (paletteWord_lt _ _) (paletteWord_lt _ _)⟩

theorem execDither_keeps_inv (h : s.Inv) : ∃ t, execDither s = .next t ∧ t.Inv := by
  refine ⟨_, rfl, h.framed fun W H hraster _ => ?_⟩
  have hlen := (ditherFrame_out_length s.cfg W H (s.readRaster (W * H))).trans_le hraster
  exact ((h.writeRaster hlen).withWork (ditherFrame_work_inRange s.cfg W H _)).settle.complete

theorem execPack_keeps_inv (h : s.Inv) : ∃ t, execPack s = .next t ∧ t.Inv := by
  refine ⟨_, rfl, h.framed fun W H _ hpbuf => ?_⟩
  exact (h.writePbuf ((packFrame_length s.cfg W H s.rasterPixel).trans_le hpbuf)).settle.complete

theorem execUnpack_keeps_inv (h : s.Inv) : ∃ t, execUnpack s = .next t ∧ t.Inv := by
  refine ⟨_, rfl, h.framed fun W H hraster _ => ?_⟩
  split
  · exact (h.redrawRaster hraster).settle.raise _ _
  · rename_i px hpx
    exact (h.writeRaster ((unpackFrame_length hpx).trans_le hraster)).settle.complete

/-- Every command completes with the invariant. -/
theorem exec_keeps_inv (h : s.Inv) (i : Instr) : ∃ t, exec i s = .next t ∧ t.Inv := by
  cases i with
  | nop => exact ⟨_, rfl, h.complete⟩
  | quant r g b => exact ⟨_, rfl, h.completeWithResults (toNat_setWidth_lt (by decide) _) (paletteWord_lt _ _)⟩
  | lut idx => exact execLut_keeps_inv h idx
  | pack2 a b => exact ⟨_, rfl, h.completeWithResults (toNat_setWidth_lt (by decide) _) (by decide)⟩
  | pack2Dup a => exact ⟨_, rfl, h.completeWithResults (toNat_setWidth_lt (by decide) _) (by decide)⟩
  | unpack1 x => exact execUnpack1_keeps_inv h x
  | dither => exact execDither_keeps_inv h
  | pack => exact execPack_keeps_inv h
  | unpack => exact execUnpack_keeps_inv h

/-! ### Turns and steps -/

theorem engineStep_keeps_inv (h : s.Inv) : ∃ t, s.engineStep = .next t ∧ t.Inv := by
  rcases engineStep_cases s with ⟨-, e⟩ | ⟨w, _, _, err, -, -, e⟩ | ⟨_, _, _, i, -, -, e⟩ <;> rw [e]
  · exact ⟨_, rfl, h⟩
  · exact ⟨_, rfl, h.raise _ w⟩
  · exact exec_keeps_inv h i

/-- An engine step before the completing one changes nothing but the hidden progress position (R42, R190). -/
theorem State.engineWork_eq (s : State) : ∃ n, s.engineWork = { s with progress := n } := by
  unfold State.engineWork
  split
  · exact ⟨s.progress, rfl⟩
  · exact ⟨_, rfl⟩

/-- The progress position stays within what the command processes (R42). -/
theorem State.Inv.engineWork (h : s.Inv) : s.engineWork.Inv := by
  unfold State.engineWork
  split
  · exact h
  · rename_i cmd wl hl hp
    refine { h with running := fun w wl' hl' hp' => ?_, idle := fun hi => Phase.noConfusion (hp.symm.trans hi) }
    obtain ⟨hcmd, hdone, hwl, hhl, -⟩ := h.running w wl' hl' hp'
    cases hp.symm.trans hp'
    exact ⟨hcmd, hdone, hwl, hhl, Nat.min_le_right _ _⟩

theorem takeTurn_keeps_inv (h : s.Inv) (turn : Turn) : ∃ t, s.takeTurn turn = .next t ∧ t.Inv := by
  cases turn with
  | host tx => exact ⟨_, rfl, h.hostAccess tx⟩
  | hardReset => exact ⟨_, rfl, h.hardReset⟩
  | engineWork => exact ⟨_, rfl, h.engineWork⟩
  | engineComplete => exact engineStep_keeps_inv h

theorem State.turnStep_nil (h : s.turns = []) : s.turnStep = s.engineStep := by
  unfold State.turnStep; rw [h]

theorem State.turnStep_cons {turn : Turn} {rest : List Turn} (h : s.turns = turn :: rest) :
    s.turnStep = { s with turns := rest }.takeTurn turn := by
  unfold State.turnStep; rw [h]

theorem turnStep_keeps_inv (h : s.Inv) : ∃ t, s.turnStep = .next t ∧ t.Inv := by
  cases hturns : s.turns with
  | nil => rw [State.turnStep_nil hturns]; exact engineStep_keeps_inv h
  | cons turn rest => rw [State.turnStep_cons hturns]; exact takeTurn_keeps_inv (h.withTurns rest) turn

/-- A step from a state with the invariant answers a next state, which has it again. -/
theorem step_keeps_inv (h : s.Inv) : ∃ t, step s = .next t ∧ t.Inv := by
  rw [step_eq_turnStep h.cfg_wf]
  exact turnStep_keeps_inv h

end Sys2Proof.Machine
end

section
/-! PROOFS. The statements of spec/00_scope.md: what a turn is (R5) and the invariant. -/

namespace Sys2Proof.Machine

/-- Settles O14: `step_keeps_inv`, the invariant kept by every operation a turn can run. -/
theorem everyStepKeepsTheInvariant : Obligations.EveryStepKeepsTheInvariant := by
  intro s t h hstep
  obtain ⟨u, hu, hinv⟩ := step_keeps_inv h
  cases hu.symm.trans hstep
  exact hinv

/-- Settles O11: a step of a well-formed block takes the turn at the head of the list. -/
theorem stepTakesTheNextTurn : Obligations.StepTakesTheNextTurn := by
  intro s rest hwf
  rw [step_eq_turnStep hwf]
  refine ⟨fun tx hturns => ?_, fun hturns => ?_, fun hturns => ?_⟩ <;> rw [State.turnStep_cons hturns]
  · rfl
  · rfl
  · obtain ⟨n, hn⟩ := State.engineWork_eq { s with turns := rest }
    exact ⟨n, congrArg Host.Outcome.next hn⟩

end Sys2Proof.Machine
end

section
/-! PROOFS. Which turns move DONE and the constants (spec/10_state.md R21, R26, R36; spec/43_control.md R183): every command
completes, and no other turn sets DONE. -/

namespace Sys2Proof.Machine

variable {s t u : State}

/-- What every turn but a command's completion keeps: the configuration, and DONE where it is 0. -/
structure SetsNoDone (s t : State) : Prop where
  cfg : t.cfg = s.cfg
  done : t.done = true → s.done = true

theorem SetsNoDone.of_eq (hcfg : t.cfg = s.cfg) (hdone : t.done = s.done) : SetsNoDone s t :=
  ⟨hcfg, fun h => hdone.symm.trans h⟩

theorem SetsNoDone.of_clear (hcfg : t.cfg = s.cfg) (hdone : t.done = false) : SetsNoDone s t :=
  ⟨hcfg, fun h => nomatch hdone.symm.trans h⟩

/-! ### Host transactions -/

/-- Without SRST a CTRL write sets IE alone (R22, R23). -/
theorem State.writeCtrl_of_noReset (s : State) {w : Word} (h : w.getLsbD 1 = false) :
    s.writeCtrl w = { s with ie := w.getLsbD 0 } := by
  unfold State.writeCtrl
  rw [h]; rfl

theorem setsNoDone_writeCtrl (s : State) (w : Word) : SetsNoDone s (s.writeCtrl w) := by
  unfold State.writeCtrl
  split
  · exact .of_clear (State.abandon_cfg s) rfl
  · exact .of_eq rfl rfl

/-- Where the STATUS write's two bits are set they clear DONE and the error record (R26, R27). -/
theorem State.writeStatus_eq (s : State) (w : Word) :
    s.writeStatus w = { s with done := s.done && !w.getLsbD 1, err := if w.getLsbD 2 then 0 else s.err,
                               errinfo := if w.getLsbD 2 then 0 else s.errinfo } := by
  unfold State.writeStatus State.clearError
  cases w.getLsbD 1 <;> cases w.getLsbD 2 <;> simp

theorem setsNoDone_writeStatus (s : State) (w : Word) : SetsNoDone s (s.writeStatus w) := by
  rw [State.writeStatus_eq]
  exact ⟨rfl, fun h => (Bool.and_eq_true_iff.mp h).1⟩

theorem setsNoDone_writeCmd (s : State) (w : Word) : SetsNoDone s (s.writeCmd w) := by
  unfold State.writeCmd
  split
  · exact .of_eq (State.record_cfg ..) (State.record_done ..)
  · exact .of_clear rfl rfl

/-- A GEOM write is stored while IDLE and ignored while RUNNING (R32, R247). -/
theorem State.writeGeom_eq (s : State) (w : Word) : s.writeGeom w = { s with geom := if s.busy then s.geom else w } := by
  unfold State.writeGeom
  cases s.busy <;> rfl

theorem setsNoDone_writeGeom (s : State) (w : Word) : SetsNoDone s (s.writeGeom w) := by
  rw [State.writeGeom_eq]
  exact .of_eq rfl rfl

theorem setsNoDone_writeReg (s : State) (r : Reg) (w : Word) : SetsNoDone s (s.writeReg r w) := by
  cases r with
  | ctrl => exact setsNoDone_writeCtrl s w
  | status => exact setsNoDone_writeStatus s w
  | cmd => exact setsNoDone_writeCmd s w
  | geom => exact setsNoDone_writeGeom s w
  | caps | result0 | result1 | errinfo | pal => exact .of_eq rfl rfl

theorem setsNoDone_hostRead (s : State) (off : Offset) : SetsNoDone s (s.hostRead off) := by
  rcases State.hostRead_cases s off with e | ⟨v, e⟩ | ⟨-, -, -, e⟩ <;> rw [e] <;> exact .of_eq rfl rfl

theorem setsNoDone_hostWrite (s : State) (off : Offset) (w : Word) (strb : BitVec 4) :
    SetsNoDone s (s.hostWrite off w strb) := by
  rcases State.hostWrite_cases s off w strb with e | e | ⟨-, -, -, e⟩ | ⟨-, cells, -, e⟩ | ⟨-, e⟩ <;> rw [e]
  · exact .of_eq rfl rfl
  · exact .of_eq rfl rfl
  · have hreg := setsNoDone_writeReg s (regAt (off.toNat / 4)) w
    exact ⟨hreg.cfg, hreg.done⟩
  · exact .of_eq rfl rfl
  · exact .of_eq rfl rfl

theorem setsNoDone_hostAccess (s : State) (tx : Transaction) : SetsNoDone s (s.hostAccess tx) := by
  cases tx with
  | read off => exact setsNoDone_hostRead s off
  | write off w strb => exact setsNoDone_hostWrite s off w strb

/-! ### Every command completes (R183, R210) -/

theorem CommandKeeps.settled (h : CommandKeeps s u) : CommandKeeps s u.settle := h.trans (CommandKeeps.settle u)

theorem completes_raise (h : CommandKeeps s u) (e : ErrCode) (info : Word) : Completes s (u.raise e info) :=
  completes_complete (h.trans (commandKeeps_record u e info))

theorem completes_setResults (s : State) (r0 r1 : Word) : Completes s (s.setResults r0 r1).complete :=
  completes_complete ⟨rfl, rfl, rfl, rfl, rfl, rfl⟩

/-- A frame command completes when its body does (R182, R205). -/
theorem completes_framed {body : Nat → Nat → State} (h : ∀ W H, Completes s (body W H)) : Completes s (s.framed body) := by
  cases hok : geometryOk s.cfg s.latchedGeometry.1 s.latchedGeometry.2 with
  | false => rw [State.framed_bad rfl hok]; exact completes_raise (CommandKeeps.refl s) _ _
  | true => rw [State.framed_ok rfl hok]; exact h _ _

theorem execLut_completes (s : State) (idx : Nibble) : ∃ t, execLut idx s = .next t ∧ Completes s t := by
  unfold execLut
  split
  · exact ⟨_, rfl, completes_raise (CommandKeeps.refl s) _ _⟩
  · exact ⟨_, rfl, completes_setResults s _ _⟩

theorem execUnpack1_completes (s : State) (x : Byte) : ∃ t, execUnpack1 x s = .next t ∧ Completes s t := by
  unfold execUnpack1
  split
  · exact ⟨_, rfl, completes_raise (CommandKeeps.refl s) _ _⟩
  · split
    · exact ⟨_, rfl, completes_raise (CommandKeeps.refl s) _ _⟩
    · exact ⟨_, rfl, completes_setResults s _ _⟩

theorem execDither_completes (s : State) : ∃ t, execDither s = .next t ∧ Completes s t :=
  ⟨_, rfl, completes_framed fun _ _ => completes_complete (CommandKeeps.settled ⟨rfl, rfl, rfl, rfl, rfl, rfl⟩)⟩

theorem execPack_completes (s : State) : ∃ t, execPack s = .next t ∧ Completes s t :=
  ⟨_, rfl, completes_framed fun _ _ => completes_complete (CommandKeeps.settled ⟨rfl, rfl, rfl, rfl, rfl, rfl⟩)⟩

theorem execUnpack_completes (s : State) : ∃ t, execUnpack s = .next t ∧ Completes s t := by
  refine ⟨_, rfl, completes_framed fun W H => ?_⟩
  split
  · have hredraw : CommandKeeps s (s.redrawRaster (W * H)) := ⟨rfl, rfl, rfl, rfl, rfl, rfl⟩
    exact completes_raise hredraw.settled _ _
  · exact completes_complete (CommandKeeps.settled ⟨rfl, rfl, rfl, rfl, rfl, rfl⟩)

/-- Every command completes, successful or aborted (R183, R210). -/
theorem exec_completes (s : State) (i : Instr) : ∃ t, exec i s = .next t ∧ Completes s t := by
  cases i with
  | nop => exact ⟨_, rfl, completes_complete (CommandKeeps.refl s)⟩
  | quant r g b => exact ⟨_, rfl, completes_setResults s _ _⟩
  | lut idx => exact execLut_completes s idx
  | pack2 a b => exact ⟨_, rfl, completes_setResults s _ _⟩
  | pack2Dup a => exact ⟨_, rfl, completes_setResults s _ _⟩
  | unpack1 x => exact execUnpack1_completes s x
  | dither => exact execDither_completes s
  | pack => exact execPack_completes s
  | unpack => exact execUnpack_completes s

/-! ### Turns and steps -/

/-- The engine's completing step leaves an idle block as it is and completes a running command (R182, R183, R185). -/
theorem engineStep_idle_or_completes (s : State) :
    s.engineStep = .next s ∨ (s.busy = true ∧ ∃ t, s.engineStep = .next t ∧ Completes s t) := by
  rcases engineStep_cases s with ⟨-, e⟩ | ⟨_, _, _, _, hp, -, e⟩ | ⟨_, _, _, i, hp, -, e⟩ <;> rw [e]
  · exact .inl rfl
  · exact .inr ⟨State.busy_running hp, _, rfl, completes_raise (CommandKeeps.refl s) _ _⟩
  · exact .inr ⟨State.busy_running hp, exec_completes s i⟩

/-- Where an engine step is due, the turn completes the running command or, while IDLE, sets nothing. -/
theorem turnStep_of_engineDue_cases {rest : List Turn} (hdue : EngineDue s rest) (h : s.turnStep = .next t) :
    SetsNoDone s t ∨ (s.busy = true ∧ ∃ later, EngineDue s later ∧ Completes { s with turns := later } t) := by
  rw [turnStep_of_engineDue hdue] at h
  rcases engineStep_idle_or_completes { s with turns := rest } with e | ⟨hbusy, u, e, hu⟩
  · cases e.symm.trans h
    exact .inl (.of_eq rfl rfl)
  · cases e.symm.trans h
    exact .inr ⟨hbusy, rest, hdue, hu⟩

/-- What a turn can do to DONE and the constants: it sets nothing, or it is the engine step that completes the running command. -/
theorem turnStep_cases (h : s.turnStep = .next t) :
    SetsNoDone s t ∨ (s.busy = true ∧ ∃ rest, EngineDue s rest ∧ Completes { s with turns := rest } t) := by
  cases hturns : s.turns with
  | nil => exact turnStep_of_engineDue_cases (.inr ⟨hturns, rfl⟩) h
  | cons turn rest =>
    have hturn := (State.turnStep_cons hturns).symm.trans h
    cases turn with
    | host tx =>
      cases hturn
      have htx := setsNoDone_hostAccess { s with turns := rest } tx
      exact .inl ⟨htx.cfg, htx.done⟩
    | hardReset => cases hturn; exact .inl (.of_clear rfl rfl)
    | engineWork => cases hturn; exact .inl (.of_eq (State.engineWork_cfg _) (State.engineWork_done _))
    | engineComplete => exact turnStep_of_engineDue_cases (.inl hturns) h

/-- A step that answers a next state took a turn; it did not stop on the parameters (R6, R111). -/
theorem turnStep_of_step (h : step s = .next t) : s.turnStep = .next t := by
  unfold step at h
  split at h
  · split at h
    · exact h
    · cases h
  · cases h

theorem step_keeps_cfg (h : step s = .next t) : t.cfg = s.cfg := by
  rcases turnStep_cases (turnStep_of_step h) with hquiet | ⟨-, _, -, hc⟩
  · exact hquiet.cfg
  · exact hc.keeps.cfg

end Sys2Proof.Machine
end

section
/-! PROOFS. The register file as the host sees it (spec/10_state.md R20 to R36): a register's offset reaches that register, what
the register words hold field by field, and which registers ignore a write. -/

namespace Sys2Proof.Machine

/-! ### A register's offset reaches it (R20, R62) -/

theorem regOffset_lt (r : Reg) : regOffset r < 0x40 := by
  cases r with
  | pal i => simp only [regOffset]; omega
  | _ => decide

theorem regOffset_aligned (r : Reg) : regOffset r % 4 = 0 := by
  cases r with
  | pal i => simp only [regOffset]; omega
  | _ => rfl

theorem regionOf_regOffset {off : Offset} {r : Reg} (h : off.toNat = regOffset r) : regionOf off = .register r := by
  unfold regionOf
  simp only [h, regOffset_lt r, if_true, regAt_regOffset]

theorem misaligned_regOffset {off : Offset} {r : Reg} (h : off.toNat = regOffset r) : misaligned off = false :=
  misaligned_eq_false (by rw [h]; exact regOffset_aligned r)

/-- Reading at a register's offset answers that register's word. -/
theorem State.hostAccess_read_register (s : State) {off : Offset} {r : Reg} (h : off.toNat = regOffset r) :
    s.hostAccess (.read off) = s.answerRead (s.readReg r) := by
  simp only [State.hostAccess, State.hostRead, misaligned_regOffset h, regionOf_regOffset h, Bool.false_eq_true, if_false]

/-- A full-strobe write at a register's offset writes that register and answers OK. -/
theorem State.hostAccess_write_register (s : State) {off : Offset} {r : Reg} (h : off.toNat = regOffset r) (w : Word) :
    s.hostAccess (.write off w 0b1111) = (s.writeReg r w).answerWrite := by
  simp only [State.hostAccess, State.hostWrite, misaligned_regOffset h, regionOf_regOffset h, Bool.false_eq_true, if_false]
  rfl

/-- The answer of a read at a register's offset. -/
theorem State.answer_read_register (s : State) {off : Offset} {r : Reg} (h : off.toNat = regOffset r) :
    (s.hostAccess (.read off)).answer = some (.read (s.readReg r) .ok) := by
  rw [State.hostAccess_read_register s h]; rfl

/-! ### The words read

A field of a concatenated word is found by `BitVec.extractLsb'_append_eq_ite`, part by part. It matches the widths as the sums
they are, so `simp` must not add them up first. -/

/-- CTRL reads IE in bit 0 and zeros (R22 to R24). -/
theorem State.ctrlWord_eq (s : State) : s.ctrlWord = if s.ie then 1 else 0 := by
  unfold State.ctrlWord
  cases s.ie <;> decide

/-- The legal ranges of R6, as numbers. -/
theorem Config.inRange_iff {c : Config} : c.inRange = true ↔
    c.fracBits ≤ 8 ∧ 1 ≤ c.maxW ∧ c.maxW ≤ 4095 ∧ 1 ≤ c.maxH ∧ c.maxH ≤ 4095 ∧ c.maxW * c.maxH ≤ 524288 := by
  simp [Config.inRange, and_assoc]

/-- The fields of CAPS at their places; each parameter as far as its field is wide (R21). -/
theorem capsWord_extracts (c : Config) :
    (capsWord c).extractLsb' 0 12 = BitVec.ofNat 12 c.maxW ∧ (capsWord c).extractLsb' 12 12 = BitVec.ofNat 12 c.maxH ∧
    (capsWord c).extractLsb' 24 4 = BitVec.ofNat 4 c.fracBits ∧ (capsWord c).extractLsb' 28 4 = 1#4 := by
  unfold capsWord
  simp [-Nat.reduceAdd, BitVec.extractLsb'_append_eq_ite]

/-- The four fields of CAPS, for parameters in the ranges of R6 (R21). -/
theorem capsWord_fields {c : Config} (h : c.inRange = true) :
    ((capsWord c).extractLsb' 0 12).toNat = c.maxW ∧ ((capsWord c).extractLsb' 12 12).toNat = c.maxH ∧
    ((capsWord c).extractLsb' 24 4).toNat = c.fracBits ∧ (capsWord c).extractLsb' 28 4 = 1#4 := by
  obtain ⟨hfrac, -, hmaxW, -, hmaxH, -⟩ := Config.inRange_iff.mp h
  obtain ⟨ew, eh, ef, ev⟩ := capsWord_extracts c
  simp only [ew, eh, ef, BitVec.toNat_ofNat]
  exact ⟨Nat.mod_eq_of_lt (by omega), Nat.mod_eq_of_lt (by omega), Nat.mod_eq_of_lt (by omega), ev⟩

/-- A packed colour word reads back its channels (R9). -/
theorem rgbWord_isColourWord (t : Rgb) : IsColourWord (rgbWord t) t := by
  unfold IsColourWord rgbWord
  simp [-Nat.reduceAdd, BitVec.extractLsb'_append_eq_ite]

/-- The flags of STATUS, bits [3:0] (R25 to R30). -/
theorem State.statusWord_flags (s : State) :
    s.statusWord.getLsbD 0 = s.busy ∧ s.statusWord.getLsbD 1 = s.done ∧ s.statusWord.getLsbD 2 = false ∧
    s.statusWord.getLsbD 3 = s.irq := by
  unfold State.statusWord
  simp only [BitVec.getLsbD_append]
  simp

/-- ERR stands in STATUS[11:8], and the reserved fields around it read 0 (R29, R30). -/
theorem State.statusWord_extracts (s : State) :
    s.statusWord.extractLsb' 4 4 = 0#4 ∧ s.statusWord.extractLsb' 8 4 = s.err ∧ s.statusWord.extractLsb' 12 20 = 0#20 := by
  unfold State.statusWord
  simp [-Nat.reduceAdd, BitVec.extractLsb'_append_eq_ite]

/-! ### Registers that ignore a write -/

/-- The registers the host can only read (R20): all but CTRL, STATUS, CMD and GEOM. -/
def Reg.readOnly : Reg → Bool
  | .ctrl | .status | .cmd | .geom => false
  | .caps | .result0 | .result1 | .errinfo | .pal _ => true

/-- A write to a read-only register is ignored (R20). -/
theorem State.writeReg_readOnly (s : State) {r : Reg} (h : r.readOnly = true) (w : Word) : s.writeReg r w = s := by
  cases r with
  | ctrl | status | cmd | geom => cases h
  | caps | result0 | result1 | errinfo | pal => rfl

end Sys2Proof.Machine
end

section
/-! PROOFS. The statements of spec/10_state.md. -/

namespace Sys2Proof.Machine

/-- Settles O16: CAPS and the palette registers are words of the configuration, which every step keeps (`step_keeps_cfg`). -/
theorem everyStepKeepsTheConstants : Obligations.EveryStepKeepsTheConstants := by
  intro s t hstep
  have hcfg := step_keeps_cfg hstep
  exact ⟨hcfg, congrArg capsWord hcfg, fun i => congrArg (paletteWord · i) hcfg⟩

/-- Settles O18: by `turnStep_cases`, a turn that sets DONE is the engine step that completes the running command. -/
theorem onlyCompletionSetsDone : Obligations.OnlyCompletionSetsDone := by
  intro s t hstep hbefore hafter
  rcases turnStep_cases (turnStep_of_step hstep) with hquiet | ⟨hbusy, rest, hdue, hc⟩
  · exact nomatch hbefore.symm.trans (hquiet.done hafter)
  · exact ⟨hbusy, hc.busy, rest, hdue⟩

/-- Settles O46. -/
theorem ctrlWriteSetsInterruptEnable : Obligations.CtrlWriteSetsInterruptEnable := by
  intro s w hsrst
  refine ⟨?_, ?_⟩
  · rw [s.hostAccess_write_register (r := .ctrl) rfl]
    exact congrArg State.answerWrite (s.writeCtrl_of_noReset hsrst)
  · rw [s.answer_read_register (r := .ctrl) rfl]
    exact congrArg (fun v => some (Answer.read v .ok)) s.ctrlWord_eq

/-- Settles O47. -/
theorem statusWriteClearsDoneAndError : Obligations.StatusWriteClearsDoneAndError := by
  intro s w
  rw [s.hostAccess_write_register (r := .status) rfl]
  exact congrArg State.answerWrite (s.writeStatus_eq w)

/-- Settles O48: the word's fields, and O47's equation, in which only bits 1 and 2 of the written word occur. -/
theorem statusReadsItsFlags : Obligations.StatusReadsItsFlags := by
  intro s
  obtain ⟨hbusy, hdone, hzero, hirq⟩ := s.statusWord_flags
  obtain ⟨hlow, herr, hhigh⟩ := s.statusWord_extracts
  refine ⟨s.statusWord, s.answer_read_register (r := .status) rfl, hbusy, hdone, hzero, hirq, rfl, hlow, herr, hhigh, ?_⟩
  intro w w' h1 h2
  rw [statusWriteClearsDoneAndError s w, statusWriteClearsDoneAndError s w', h1, h2]

/-- Settles O49. -/
theorem geomWriteIsIgnoredWhileBusy : Obligations.GeomWriteIsIgnoredWhileBusy := by
  intro s w
  refine ⟨?_, s.answer_read_register (r := .geom) rfl⟩
  rw [s.hostAccess_write_register (r := .geom) rfl]
  exact congrArg State.answerWrite (s.writeGeom_eq w)

/-- Settles O50: each offset is its register's (R20), so a read answers that register's word and a write to a read-only one
leaves the block as it is. -/
theorem readOnlyRegistersReadAndIgnoreWrites : Obligations.ReadOnlyRegistersReadAndIgnoreWrites := by
  intro s w
  have hcaps := s.answer_read_register (off := 0x000) (r := .caps) rfl
  refine ⟨s.answer_read_register (r := .cmd) rfl, s.answer_read_register (r := .result0) rfl,
    s.answer_read_register (r := .result1) rfl, s.answer_read_register (r := .errinfo) rfl,
    fun hin => ⟨_, hcaps, capsWord_fields hin⟩, fun hcfg => ?_, fun i => ?_, fun off hoff => ?_⟩
  · rw [hcaps, State.readReg, hcfg]; rfl
  · have hpal : (BitVec.ofNat 23 (0x020 + 4 * i.toNat)).toNat = regOffset (.pal i) :=
      (BitVec.toNat_ofNat _ _).trans (Nat.mod_eq_of_lt ((regOffset_lt (.pal i)).trans (by decide)))
    exact ⟨_, s.answer_read_register hpal, rgbWord_isColourWord _⟩
  · obtain ⟨hreadOnly, hoffset⟩ :
        (regAt (off / 4)).readOnly = true ∧ (BitVec.ofNat 23 off).toNat = regOffset (regAt (off / 4)) := by
      revert off; decide
    rw [s.hostAccess_write_register hoffset, s.writeReg_readOnly hreadOnly]
    rfl

end Sys2Proof.Machine
end

section
/-! PROOFS. The address map as the host sees it (spec/20_memory.md R62 to R73): which offsets reach reserved register space and
the words of the two windows, what a word access stores and reads there lane by lane, and what a read leaves unchanged. -/

namespace Sys2Proof.Machine

variable {s : State} {off : Offset}

/-! ### Reserved register space (R65) -/

theorem regionOf_reserved (hlo : 0x40 ≤ off.toNat) (hhi : off.toNat < 0x100000) : regionOf off = .reserved := by
  unfold regionOf
  simp only [Nat.not_lt.mpr hlo, hhi, if_true, if_false]

theorem State.hostAccess_read_reserved (s : State) (hal : off.toNat % 4 = 0) (hlo : 0x40 ≤ off.toNat)
    (hhi : off.toNat < 0x100000) : s.hostAccess (.read off) = s.answerRead 0 := by
  simp only [State.hostAccess, State.hostRead, misaligned_eq_false hal, regionOf_reserved hlo hhi, Bool.false_eq_true, if_false]

theorem State.hostAccess_write_reserved (s : State) (hal : off.toNat % 4 = 0) (hlo : 0x40 ≤ off.toNat)
    (hhi : off.toNat < 0x100000) (w : Word) (strb : BitVec 4) : s.hostAccess (.write off w strb) = s.answerWrite := by
  simp only [State.hostAccess, State.hostWrite, misaligned_eq_false hal, regionOf_reserved hlo hhi, Bool.false_eq_true, if_false]

/-! ### The windows' capacities (R6) -/

/-- The capacities of a well-formed configuration lie within the windows (R6, R62). -/
theorem Config.capacity_of_wf {c : Config} (h : c.wf = true) : c.pbufBytes ≤ 0x100000 ∧ c.rasterWords ≤ 0x80000 := by
  obtain ⟨hrange, -⟩ := Bool.and_eq_true_iff.mp h
  exact Config.capacity_of_inRange hrange

/-! ### The words of the PBUF window (R62, R66) -/

theorem regionOf_pbuf {j : Nat} (h : off.toNat = pbufAddr (4 * j)) (hj : 4 * j < 0x100000) : regionOf off = .pbuf j := by
  unfold pbufAddr at h
  rcases regionOf_cases off with hregister | hreserved | ⟨-, -, hpbuf⟩ | hraster | hunmapped
  · omega
  · omega
  · rw [hpbuf, h]; congr 1; omega
  · omega
  · omega

theorem misaligned_pbuf {j : Nat} (h : off.toNat = pbufAddr (4 * j)) : misaligned off = false :=
  misaligned_eq_false (by unfold pbufAddr at h; omega)

/-- A read of PBUF word j within the capacity. -/
theorem State.hostAccess_read_pbuf {j : Nat} (h : off.toNat = pbufAddr (4 * j)) (hwin : 4 * j < 0x100000)
    (hj : 4 * j < s.cfg.pbufBytes) : s.hostAccess (.read off) = s.windowRead (s.pbufWord j) := by
  simp only [State.hostAccess, State.hostRead, misaligned_pbuf h, regionOf_pbuf h hwin, Nat.not_le.mpr hj, Bool.false_eq_true,
    if_false]

/-- A write of PBUF word j within the capacity. -/
theorem State.hostAccess_write_pbuf {j : Nat} (h : off.toNat = pbufAddr (4 * j)) (hwin : 4 * j < 0x100000)
    (hj : 4 * j < s.cfg.pbufBytes) (w : Word) (strb : BitVec 4) :
    s.hostAccess (.write off w strb) = s.windowWrite (pbufWriteCells s.cfg j w strb) := by
  simp only [State.hostAccess, State.hostWrite, misaligned_pbuf h, regionOf_pbuf h hwin, Nat.not_le.mpr hj, Bool.false_eq_true,
    if_false]

/-! ### The words of the RASTER window (R62, R67) -/

theorem regionOf_raster {p : Nat} (h : off.toNat = rasterAddr p 0) (hp : p < 0x80000) : regionOf off = .raster p := by
  unfold rasterAddr at h
  rcases regionOf_cases off with hregister | hreserved | hpbuf | ⟨-, -, hraster⟩ | hunmapped
  · omega
  · omega
  · omega
  · rw [hraster, h]; congr 1; omega
  · omega

theorem misaligned_raster {p : Nat} (h : off.toNat = rasterAddr p 0) : misaligned off = false :=
  misaligned_eq_false (by unfold rasterAddr at h; omega)

/-- A read of RASTER word p within the capacity. -/
theorem State.hostAccess_read_raster {p : Nat} (h : off.toNat = rasterAddr p 0) (hwin : p < 0x80000)
    (hp : p < s.cfg.rasterWords) : s.hostAccess (.read off) = s.windowRead (s.rasterWord p) := by
  simp only [State.hostAccess, State.hostRead, misaligned_raster h, regionOf_raster h hwin, Nat.not_le.mpr hp,
    Bool.false_eq_true, if_false]

/-- A write of RASTER word p within the capacity. -/
theorem State.hostAccess_write_raster {p : Nat} (h : off.toNat = rasterAddr p 0) (hwin : p < 0x80000)
    (hp : p < s.cfg.rasterWords) (w : Word) (strb : BitVec 4) :
    s.hostAccess (.write off w strb) = s.windowWrite (rasterWriteCells p w strb) := by
  simp only [State.hostAccess, State.hostWrite, misaligned_raster h, regionOf_raster h hwin, Nat.not_le.mpr hp,
    Bool.false_eq_true, if_false]

/-! ### The lanes a word write stores

Both windows store lanes of the written word at addresses one to one with the lanes; they differ in which lanes and where. -/

/-- The cells that store lane i of `w` at `addr i`, for the lanes i < n that `stored` selects. -/
def laneCells (n : Nat) (stored : Nat → Bool) (addr : Nat → Nat) (w : Word) : List Host.Cell :=
  ((List.range n).filter stored).map (fun i => (addr i, byteLane w i))

theorem pbufWriteCells_eq_laneCells (c : Config) (j : Nat) (w : Word) (strb : BitVec 4) :
    pbufWriteCells c j w strb =
      laneCells 4 (fun i => strb.getLsbD i && decide (4 * j + i < c.pbufBytes)) (fun i => pbufAddr (4 * j + i)) w := rfl

theorem rasterWriteCells_eq_laneCells (p : Nat) (w : Word) (strb : BitVec 4) :
    rasterWriteCells p w strb = laneCells 3 (fun lane => strb.getLsbD lane) (rasterAddr p) w := rfl

section Lanes

variable {n : Nat} {stored : Nat → Bool} {addr : Nat → Nat} {w : Word}

theorem mem_laneCells {c : Host.Cell} :
    c ∈ laneCells n stored addr w ↔ ∃ i < n, stored i = true ∧ c = (addr i, byteLane w i) := by
  simp only [laneCells, List.mem_map, List.mem_filter, List.mem_range, and_assoc, eq_comm]

theorem laneCells_nodup (hinj : ∀ i j, addr i = addr j → i = j) : ((laneCells n stored addr w).map Prod.fst).Nodup := by
  have haddr : (laneCells n stored addr w).map Prod.fst = ((List.range n).filter stored).map addr := by
    simp [laneCells, Function.comp_def]
  rw [haddr]
  exact (List.nodup_range.filter _).map hinj

/-- A stored lane reads back. -/
theorem State.readByte_storeCells_lane (s : State) (hinj : ∀ i j, addr i = addr j → i = j) {i : Nat} (hi : i < n)
    (h : stored i = true) : (s.storeCells (laneCells n stored addr w)).readByte (addr i) = byteLane w i :=
  State.readByte_storeCells_of_mem (laneCells_nodup hinj) (mem_laneCells.mpr ⟨i, hi, h, rfl⟩) s

/-- A byte that is no stored lane's is left alone. -/
theorem State.readByte_storeCells_noLane (s : State) {a : Nat} (h : ∀ i < n, stored i = true → a ≠ addr i) :
    (s.storeCells (laneCells n stored addr w)).readByte a = s.readByte a := by
  refine State.readByte_storeCells_of_notMem (fun c hc haddr => ?_) s
  obtain ⟨i, hi, hst, rfl⟩ := mem_laneCells.mp hc
  exact h i hi hst haddr.symm

/-- A lane's byte after the write: the written one where the lane is stored, else the old one. -/
theorem State.readByte_storeCells_laneCells (s : State) (hinj : ∀ i j, addr i = addr j → i = j) {i : Nat} (hi : i < n) :
    (s.storeCells (laneCells n stored addr w)).readByte (addr i) = if stored i then byteLane w i else s.readByte (addr i) := by
  split
  case isTrue h => exact s.readByte_storeCells_lane hinj hi h
  case isFalse h =>
    refine s.readByte_storeCells_noLane fun k _ hk heq => h ?_
    rwa [hinj i k heq]

end Lanes

/-- A PBUF word write stores lane i at byte 4j + i, where its strobe is set and the byte within the capacity (R66, R69). -/
theorem State.pbufByte_pbufWordWrite (s : State) {j i : Nat} {w : Word} {strb : BitVec 4} (hi : i < 4)
    (hstrb : strb.getLsbD i = true) (hin : 4 * j + i < s.cfg.pbufBytes) :
    (s.storeCells (pbufWriteCells s.cfg j w strb)).pbufByte (4 * j + i) = byteLane w i := by
  have hinj : ∀ i k, pbufAddr (4 * j + i) = pbufAddr (4 * j + k) → i = k := fun _ _ h => Nat.add_left_cancel (pbufAddr_inj h)
  rw [pbufWriteCells_eq_laneCells]
  exact s.readByte_storeCells_lane hinj hi (by simp [hstrb, hin])

/-- A PBUF word write leaves every other byte alone (R66). -/
theorem State.readByte_pbufWordWrite_outside (s : State) {j a : Nat} {w : Word} {strb : BitVec 4}
    (h : ∀ i < 4, strb.getLsbD i = true → 4 * j + i < s.cfg.pbufBytes → a ≠ pbufAddr (4 * j + i)) :
    (s.storeCells (pbufWriteCells s.cfg j w strb)).readByte a = s.readByte a := by
  rw [pbufWriteCells_eq_laneCells]
  refine s.readByte_storeCells_noLane fun i hi hst => ?_
  obtain ⟨hstrb, hin⟩ := Bool.and_eq_true_iff.mp hst
  exact h i hi hstrb (of_decide_eq_true hin)

/-- A RASTER word write stores the strobed ones of the channels r, g, b from lanes 2, 1, 0 (R67). -/
theorem State.rasterPixel_rasterWordWrite (s : State) (p : Nat) (w : Word) (strb : BitVec 4) :
    (s.storeCells (rasterWriteCells p w strb)).rasterPixel p =
      ⟨if strb.getLsbD 2 then byteLane w 2 else (s.rasterPixel p).r,
       if strb.getLsbD 1 then byteLane w 1 else (s.rasterPixel p).g,
       if strb.getLsbD 0 then byteLane w 0 else (s.rasterPixel p).b⟩ := by
  have hlane : ∀ lane < 3, (s.storeCells (rasterWriteCells p w strb)).readByte (rasterAddr p lane) =
      if strb.getLsbD lane then byteLane w lane else s.readByte (rasterAddr p lane) := fun lane hl =>
    s.readByte_storeCells_laneCells (fun _ _ h => Nat.add_left_cancel h) hl
  unfold State.rasterPixel
  rw [hlane 2 (by decide), hlane 1 (by decide), hlane 0 (by decide)]

/-- A RASTER word write leaves every other byte alone, whatever its lane 3 is (R67). -/
theorem State.readByte_rasterWordWrite_outside (s : State) {p a : Nat} {w : Word} {strb : BitVec 4}
    (h : ∀ lane < 3, strb.getLsbD lane = true → a ≠ rasterAddr p lane) :
    (s.storeCells (rasterWriteCells p w strb)).readByte a = s.readByte a :=
  s.readByte_storeCells_noLane h

/-! ### The lanes of a word read -/

/-- Four bytes joined, the highest lane first, read back lane by lane (R69). -/
theorem extractLsb'_lane_append (lane : Nat → Byte) {i : Nat} (hi : i < 4) :
    (lane 3 ++ lane 2 ++ lane 1 ++ lane 0).extractLsb' (8 * i) 8 = lane i := by
  interval_cases i <;> simp [-Nat.reduceAdd, BitVec.extractLsb'_append_eq_ite]

/-- Lane i of PBUF word j is byte 4j + i, and 0 past the capacity (R66, R69). -/
theorem State.pbufWord_lane (s : State) (j : Nat) {i : Nat} (hi : i < 4) :
    (s.pbufWord j).extractLsb' (8 * i) 8 = if 4 * j + i < s.cfg.pbufBytes then s.pbufByte (4 * j + i) else 0#8 :=
  extractLsb'_lane_append (fun i => if 4 * j + i < s.cfg.pbufBytes then s.pbufByte (4 * j + i) else 0) hi

/-! ### What a read leaves unchanged (R73) -/

/-- A read moves the record of the answer and the count of free values alone. -/
theorem State.hostRead_eq (s : State) (off : Offset) :
    s.hostRead off = { s with answer := (s.hostRead off).answer, draws := (s.hostRead off).draws } := by
  rcases s.hostRead_cases off with e | ⟨v, e⟩ | ⟨-, -, -, e⟩ <;> rw [e] <;> rfl

/-- A read draws no free value while IDLE or outside the two memory windows. -/
theorem State.hostRead_draws (s : State) (h : s.busy = false ∨ off.toNat < 0x100000 ∨ 0x400000 ≤ off.toNat) :
    (s.hostRead off).draws = s.draws := by
  rcases s.hostRead_cases off with e | ⟨v, e⟩ | ⟨hbusy, hlo, hhi, -⟩
  · rw [e, State.readError_draws]
  · rw [e, State.answerRead_draws]
  · rcases h with hidle | hbelow | habove
    · exact nomatch hbusy.symm.trans hidle
    · omega
    · omega

/-- No read depends on the answer of the transaction before it. -/
theorem State.hostRead_withAnswer (s : State) (a : Option Answer) (off : Offset) :
    ({ s with answer := a } : State).hostRead off = s.hostRead off := rfl

end Sys2Proof.Machine
end

section
/-! PROOFS. The statements of spec/20_memory.md. -/

namespace Sys2Proof.Machine

/-- Settles O52. -/
theorem reservedSpaceReadsZeroIgnoresWrites : Obligations.ReservedSpaceReadsZeroIgnoresWrites :=
  fun s _ w strb hal hlo hhi => ⟨s.hostAccess_read_reserved hal hlo hhi, s.hostAccess_write_reserved hal hlo hhi w strb⟩

/-- Settles O53: while IDLE the write stores the cells of the strobed lanes within the capacity, and the read joins the word's
four lanes. -/
theorem pbufWordsAreLittleEndian : Obligations.PbufWordsAreLittleEndian := by
  intro s j w strb hwf hidle hj
  have hwin : 4 * j < 0x100000 := Nat.lt_of_lt_of_le hj (Config.capacity_of_wf hwf).1
  have hoff : (BitVec.ofNat 23 (0x100000 + 4 * j)).toNat = pbufAddr (4 * j) :=
    (BitVec.toNat_ofNat _ _).trans (Nat.mod_eq_of_lt (by omega))
  refine ⟨(s.storeCells (pbufWriteCells s.cfg j w strb)).answerWrite, s.pbufWord j, ?write, ?read, rfl,
    fun i hi hstrb hin => s.pbufByte_pbufWordWrite hi hstrb hin, fun a ha => s.readByte_pbufWordWrite_outside ha,
    fun i hi => s.pbufWord_lane j hi⟩
  case write => rw [State.hostAccess_write_pbuf hoff hwin hj, State.windowWrite_idle hidle]
  case read => rw [State.hostAccess_read_pbuf hoff hwin hj, State.windowRead_idle hidle]; rfl

/-- Settles O54: while IDLE the write stores the strobed ones of lanes 0 to 2, and the read is the packed word of the pixel. -/
theorem rasterWordsHoldTheirChannels : Obligations.RasterWordsHoldTheirChannels := by
  intro s p w strb hwf hidle hp
  have hwin : p < 0x80000 := Nat.lt_of_lt_of_le hp (Config.capacity_of_wf hwf).2
  have hoff : (BitVec.ofNat 23 (0x200000 + 4 * p)).toNat = rasterAddr p 0 :=
    (BitVec.toNat_ofNat _ _).trans (Nat.mod_eq_of_lt (by omega))
  refine ⟨(s.storeCells (rasterWriteCells p w strb)).answerWrite, s.rasterWord p, ?write, ?read, rfl,
    s.rasterPixel_rasterWordWrite p w strb, fun a ha => s.readByte_rasterWordWrite_outside ha, rgbWord_isColourWord _⟩
  case write => rw [State.hostAccess_write_raster hoff hwin hp, State.windowWrite_idle hidle]
  case read => rw [State.hostAccess_read_raster hoff hwin hp, State.windowRead_idle hidle]; rfl

/-- Settles O55: a read moves the answer and the draw count alone; where it draws nothing the second read sees the first one's
state but for the answer, on which no read depends. -/
theorem readsHaveNoSideEffect : Obligations.ReadsHaveNoSideEffect := by
  intro s off
  refine ⟨s.hostRead_eq off, fun hquiet => ?_⟩
  have hdraws : (s.hostRead off).draws = s.draws := s.hostRead_draws hquiet
  have hfirst : s.hostRead off = { s with answer := (s.hostRead off).answer } := by
    have h := s.hostRead_eq off
    rwa [hdraws] at h
  refine ⟨hdraws, congrArg State.answer (?_ : (s.hostRead off).hostRead off = s.hostRead off)⟩
  calc (s.hostRead off).hostRead off
      _ = ({ s with answer := (s.hostRead off).answer } : State).hostRead off := congrArg (State.hostRead · off) hfirst
      _ = s.hostRead off := s.hostRead_withAnswer _ off

end Sys2Proof.Machine
end

section
/-! PROOFS. The command words (spec/30_encoding.md R90 to R98): fields and the masks that cover them, the encoder against the rows
of the opcode map, the decoder as one check of the must-be-zero bits, the assembler's lines. -/

namespace Sys2Proof

open Sys2Proof.Machine (mustBeZeroMask)

variable {w : Word}

/-! ### Fields and masks (R8, R90) -/

/-- Bits [lo + len - 1 : lo] as a mask. -/
def fieldMask (lo len : Nat) : Word := (BitVec.allOnes len).setWidth 32 <<< lo

/-- What a field's mask leaves of a word is the field, at its place. -/
theorem and_fieldMask (w : Word) (lo len : Nat) : w &&& fieldMask lo len = (field w lo len).setWidth 32 <<< lo := by
  ext i hi
  by_cases hlo : i < lo
  · simp [fieldMask, hlo]
  · have hbit : lo + (i - lo) = i := by omega
    simp [fieldMask, field, hlo, hbit, Bool.and_comm, BitVec.getLsbD_eq_getElem hi]

theorem and_fieldMask_eq_zero_iff {lo len : Nat} (h : lo + len ≤ 32) :
    w &&& fieldMask lo len = 0#32 ↔ field w lo len = 0#len := by
  refine ⟨fun hmask => ?_, fun hfield => by rw [and_fieldMask, hfield]; simp⟩
  ext i hi
  have hbit := congrArg (·.getLsbD (lo + i)) ((and_fieldMask w lo len).symm.trans hmask)
  have hword : lo + i < 32 := by omega
  have hfield : i < 32 := by omega
  simpa [hword, hfield, BitVec.getLsbD_eq_getElem hi] using hbit

theorem and_or_eq_zero_iff {m n : Word} : w &&& (m ||| n) = 0#32 ↔ w &&& m = 0#32 ∧ w &&& n = 0#32 := by
  rw [BitVec.and_or_distrib_left, BitVec.or_eq_zero_iff]

/-- Where the word's bits under one part of a mask are known, the mask leaves them and the bits under the other part. -/
theorem and_eq_or_and {m n k p : Word} (h : w &&& m = p) (hk : m ||| n = k) : w &&& k = p ||| w &&& n := by
  rw [← hk, BitVec.and_or_distrib_left, h]

/-- Where a mask covers a field, the field of the masked word is the word's own. -/
theorem field_eq_of_masked {m p : Word} (h : w &&& m = p) {lo len : Nat} {v : BitVec len}
    (hm : field m lo len = BitVec.allOnes len) (hp : field p lo len = v) : field w lo len = v := by
  unfold field at hm hp ⊢
  rw [← hp, ← h, BitVec.extractLsb'_and, hm, BitVec.and_allOnes]

/-- Two fields next to each other are one. -/
theorem field_append_field (w : Word) (lo len len' : Nat) :
    field w (lo + len) len' ++ field w lo len = field w lo (len' + len) :=
  BitVec.extractLsb'_append_extractLsb'_eq_extractLsb' rfl

theorem field_eq_self (w : Word) : field w 0 32 = w := BitVec.extractLsb'_eq_self

theorem field_width_one (w : Word) (n : Nat) : field w n 1 = BitVec.ofBool (w.getLsbD n) := by
  ext i hi
  obtain rfl : i = 0 := by omega
  simp [field]

/-! ### The encoder (R91) -/

/-- The decoder finds in an encoded word the fields `encode` joined. -/
theorem decode_encode (i : Instr) : decode (encode i) = .command i := by
  cases i with
  | nop | dither | pack | unpack => decide
  | quant | lut | pack2 | pack2Dup | unpack1 =>
    simp [-Nat.reduceAdd, decode, encode, mustBeZero, field, BitVec.extractLsb'_append_eq_ite]

/-- A word that matches a command's row is the word of a command with that row: of the one with the word's operand fields. -/
theorem exists_encode_of_matchesRow {i : Instr} (h : matchesRow w (opcodeRow i) = true) :
    ∃ j, encode j = w ∧ opcodeRow j = opcodeRow i := by
  have hmask : w &&& (opcodeRow i).mask = (opcodeRow i).pattern := beq_iff_eq.mp h
  cases i with
  | nop | dither | pack | unpack =>
    refine ⟨_, ?_, rfl⟩
    exact hmask.symm.trans BitVec.and_allOnes
  | quant r g b =>
    have hfixed : field w 24 8 = 0x10#8 :=
      field_eq_of_masked (m := 0xFF000000) (p := 0x10000000) hmask (by decide) (by decide)
    refine ⟨.quant (field w 16 8) (field w 8 8) (field w 0 8), ?_, rfl⟩
    calc encode (.quant (field w 16 8) (field w 8 8) (field w 0 8))
        _ = field w 24 8 ++ field w 16 8 ++ field w 8 8 ++ field w 0 8 := by rw [hfixed]; rfl
        _ = w := by rw [field_append_field w 16 8 8, field_append_field w 8 8 16, field_append_field w 0 8 24, field_eq_self]
  | lut idx =>
    have hfixed : field w 4 28 = 0x2000000#28 :=
      field_eq_of_masked (m := 0xFFFFFFF0) (p := 0x20000000) hmask (by decide) (by decide)
    refine ⟨.lut (field w 0 4), ?_, rfl⟩
    calc encode (.lut (field w 0 4))
        _ = field w 4 28 ++ field w 0 4 := by rw [hfixed]; rfl
        _ = w := by rw [field_append_field w 0 4 28, field_eq_self]
  | pack2 a b =>
    have hfixed : field w 6 26 = 0xC00000#26 :=
      field_eq_of_masked (m := 0xFFFFFFC0) (p := 0x30000000) hmask (by decide) (by decide)
    refine ⟨.pack2 (field w 3 3) (field w 0 3), ?_, rfl⟩
    calc encode (.pack2 (field w 3 3) (field w 0 3))
        _ = field w 6 26 ++ field w 3 3 ++ field w 0 3 := by rw [hfixed]; rfl
        _ = w := by rw [field_append_field w 3 3 26, field_append_field w 0 3 29, field_eq_self]
  | pack2Dup a =>
    have hfixed : field w 6 26 = 0xC00001#26 :=
      field_eq_of_masked (m := 0xFFFFFFC7) (p := 0x30000040) hmask (by decide) (by decide)
    have hlow : field w 0 3 = 0#3 :=
      field_eq_of_masked (m := 0xFFFFFFC7) (p := 0x30000040) hmask (by decide) (by decide)
    refine ⟨.pack2Dup (field w 3 3), ?_, rfl⟩
    calc encode (.pack2Dup (field w 3 3))
        _ = field w 6 26 ++ field w 3 3 ++ field w 0 3 := by rw [hfixed, hlow]; rfl
        _ = w := by rw [field_append_field w 3 3 26, field_append_field w 0 3 29, field_eq_self]
  | unpack1 x =>
    have hfixed : field w 8 24 = 0x400000#24 :=
      field_eq_of_masked (m := 0xFFFFFF00) (p := 0x40000000) hmask (by decide) (by decide)
    refine ⟨.unpack1 (field w 0 8), ?_, rfl⟩
    calc encode (.unpack1 (field w 0 8))
        _ = field w 8 24 ++ field w 0 8 := by rw [hfixed]; rfl
        _ = w := by rw [field_append_field w 0 8 24, field_eq_self]

/-! ### The must-be-zero bits (R95) -/

/-- The check of R95 on the bits of a mask: RESERVED_FIELD where one of them is 1. -/
def unlessReserved (w mask : Word) (d : Decoded) : Decoded := if w &&& mask = 0#32 then d else .error .reservedField

theorem mustBeZero_eq {lo len : Nat} (h : lo + len ≤ 32) (d : Decoded) :
    mustBeZero w lo len d = unlessReserved w (fieldMask lo len) d := by
  simp only [mustBeZero, unlessReserved, and_fieldMask_eq_zero_iff h]

/-- Two checks in a row are one check on the bits of both. -/
theorem unlessReserved_unlessReserved (m n : Word) (d : Decoded) :
    unlessReserved w m (unlessReserved w n d) = unlessReserved w (m ||| n) d := by
  simp only [unlessReserved, and_or_eq_zero_iff, ite_and]

theorem unlessReserved_eq_command_iff {m : Word} {i j : Instr} :
    unlessReserved w m (.command i) = .command j ↔ w &&& m = 0#32 ∧ i = j := by
  unfold unlessReserved
  split <;> simp_all

theorem unlessReserved_eq_error_iff {m : Word} {i : Instr} {e : DecodeError} :
    unlessReserved w m (.command i) = .error e ↔ w &&& m ≠ 0#32 ∧ e = .reservedField := by
  unfold unlessReserved
  split <;> simp_all [eq_comm]

/-! ### The decoder (R93) -/

/-- The command a word with a defined opcode stands for, whatever its must-be-zero bits are. -/
def namedCommand (w : Word) : Instr :=
  match (field w 28 4).toNat with
  | 1 => .quant (field w 16 8) (field w 8 8) (field w 0 8)
  | 2 => .lut (field w 0 4)
  | 3 => if w.getLsbD 6 then .pack2Dup (field w 3 3) else .pack2 (field w 3 3) (field w 0 3)
  | 4 => .unpack1 (field w 0 8)
  | 5 => .dither
  | 6 => .pack
  | 7 => .unpack
  | _ => .nop

/-- The defined opcodes; 0x3, whose row and must-be-zero bits depend on DUP, stands first. -/
theorem opcode_cases {op : BitVec 4} (h : op.toNat < 8) :
    op = 3#4 ∨ op = 0#4 ∨ op = 1#4 ∨ op = 2#4 ∨ op = 4#4 ∨ op = 5#4 ∨ op = 6#4 ∨ op = 7#4 := by
  revert op; decide

theorem extractLsb'_opcode (w : Word) : w.extractLsb' 28 4 = field w 28 4 := rfl

theorem opcode_lt_iff : (field w 28 4).toNat < 8 ↔ w.toNat < 0x80000000 := by
  unfold field
  rw [BitVec.extractLsb'_toNat, Nat.shiftRight_eq_div_pow]
  omega

theorem decode_of_illegal (h : 8 ≤ (field w 28 4).toNat) : decode w = .error .illegalOpcode := if_pos h

/-- A word with a defined opcode is the command it names, but for the check of its must-be-zero bits (R95). -/
theorem decode_of_defined (h : (field w 28 4).toNat < 8) :
    decode w = unlessReserved w (mustBeZeroMask w) (.command (namedCommand w)) := by
  rcases opcode_cases h with hop | hop
  · cases hdup : w.getLsbD 6 <;>
    · simp only [decode, namedCommand, mustBeZeroMask, mustBeZero_eq, unlessReserved_unlessReserved, extractLsb'_opcode, hop,
        field_width_one, hdup, BitVec.ofBool_true, BitVec.ofBool_false, BitVec.reduceEq, BitVec.reduceToNat, Nat.reduceAdd,
        Nat.reduceLeDiff, if_false]
      rfl
  · rcases hop with hop | hop | hop | hop | hop | hop | hop <;>
    · simp only [decode, namedCommand, mustBeZeroMask, mustBeZero_eq, unlessReserved_unlessReserved, extractLsb'_opcode, hop,
        BitVec.reduceToNat, Nat.reduceAdd, Nat.reduceLeDiff, if_false]
      rfl

/-- The mask of a word's row covers OP, DUP where there is one, and the must-be-zero bits (R95): what it leaves of the word is
the row's pattern and the must-be-zero bits that are 1. -/
theorem and_mask_namedCommand (h : (field w 28 4).toNat < 8) :
    w &&& (opcodeRow (namedCommand w)).mask = (opcodeRow (namedCommand w)).pattern ||| w &&& mustBeZeroMask w := by
  rcases opcode_cases h with hop | hop
  · have hfixed := and_eq_or_and (and_fieldMask w 28 4) (n := fieldMask 6 1) rfl
    cases hdup : w.getLsbD 6 <;>
    · rw [hop, and_fieldMask, field_width_one, hdup] at hfixed
      simp only [namedCommand, mustBeZeroMask, extractLsb'_opcode, hop, hdup, opcodeRow, BitVec.reduceToNat,
        Bool.false_eq_true, if_true, if_false]
      exact and_eq_or_and hfixed rfl
  · have hfixed := and_fieldMask w 28 4
    rcases hop with hop | hop | hop | hop | hop | hop | hop <;>
    · rw [hop] at hfixed
      simp only [namedCommand, mustBeZeroMask, extractLsb'_opcode, hop, opcodeRow, BitVec.reduceToNat]
      exact and_eq_or_and hfixed rfl

theorem matchesRow_of_decode {i : Instr} (h : decode w = .command i) : matchesRow w (opcodeRow i) = true := by
  have hdefined : (field w 28 4).toNat < 8 := by
    by_contra hillegal
    rw [decode_of_illegal (Nat.le_of_not_lt hillegal)] at h
    cases h
  rw [decode_of_defined hdefined, unlessReserved_eq_command_iff] at h
  obtain ⟨hzero, rfl⟩ := h
  exact beq_iff_eq.mpr (by rw [and_mask_namedCommand hdefined, hzero, BitVec.or_zero])

/-- A word is a command with some row exactly when it matches that row. -/
theorem matchesRow_iff_decode {i : Instr} :
    matchesRow w (opcodeRow i) = true ↔ ∃ j, decode w = .command j ∧ opcodeRow j = opcodeRow i := by
  constructor
  · intro h
    obtain ⟨j, rfl, hrow⟩ := exists_encode_of_matchesRow h
    exact ⟨j, decode_encode j, hrow⟩
  · rintro ⟨j, hj, hrow⟩
    exact hrow ▸ matchesRow_of_decode hj

theorem encode_of_decode {i : Instr} (h : decode w = .command i) : encode i = w := by
  obtain ⟨j, rfl, -⟩ := exists_encode_of_matchesRow (matchesRow_of_decode h)
  cases (decode_encode j).symm.trans h
  rfl

theorem exists_opcodeRow {row : OpcodeRow} (h : row ∈ opcodeRows) : ∃ i, opcodeRow i = row := by
  simp only [opcodeRows, List.mem_cons, List.not_mem_nil, or_false] at h
  rcases h with h | h | h | h | h | h | h | h | h <;> exact ⟨_, h.symm⟩

theorem decode_eq_illegalOpcode_iff : decode w = .error .illegalOpcode ↔ 0x80000000 ≤ w.toNat := by
  rw [← Nat.not_lt, ← opcode_lt_iff]
  by_cases hdefined : (field w 28 4).toNat < 8
  · simp [decode_of_defined hdefined, unlessReserved_eq_error_iff, hdefined]
  · simp [decode_of_illegal (Nat.le_of_not_lt hdefined), hdefined]

theorem decode_eq_reservedField_iff :
    decode w = .error .reservedField ↔ w.toNat < 0x80000000 ∧ w &&& mustBeZeroMask w ≠ 0#32 := by
  rw [← opcode_lt_iff]
  by_cases hdefined : (field w 28 4).toNat < 8
  · simp [decode_of_defined hdefined, unlessReserved_eq_error_iff, hdefined]
  · simp [decode_of_illegal (Nat.le_of_not_lt hdefined), hdefined]

/-! ### The assembler (R98) -/

theorem assemble_eq_none {c : AsmCommand} (h : c.wf = false) : assemble c = none := if_neg (by rw [h]; decide)

theorem assemble_quant (r g b : Byte) : assemble (.quant r.toNat g.toNat b.toNat) = some (encode (.quant r g b)) := by
  simp [assemble, AsmCommand.wf, encode, r.isLt, g.isLt, b.isLt]

/-- The number 0xRRGGBB has the channels as its bytes (R9). -/
theorem ofNat_channels (r g b : Byte) : BitVec.ofNat 24 (r.toNat * 65536 + g.toNat * 256 + b.toNat) = r ++ g ++ b := by
  apply BitVec.eq_of_toNat_eq
  rw [BitVec.toNat_append, BitVec.toNat_append, ← Nat.shiftLeft_add_eq_or_of_lt g.isLt,
    ← Nat.shiftLeft_add_eq_or_of_lt b.isLt, BitVec.toNat_ofNat, Nat.shiftLeft_eq, Nat.shiftLeft_eq]
  omega

theorem assemble_quantWord (r g b : Byte) :
    assemble (.quantWord (r.toNat * 65536 + g.toNat * 256 + b.toNat)) = some (encode (.quant r g b)) := by
  have hlt : r.toNat * 65536 + g.toNat * 256 + b.toNat < 2 ^ 24 := by omega
  have hword : 0x10#8 ++ (r ++ g ++ b) = encode (.quant r g b) :=
    (BitVec.append_assoc' (x₂ := r ++ g)).trans (congrArg (· ++ b) BitVec.append_assoc')
  rw [← hword, ← ofNat_channels]
  exact if_pos (decide_eq_true hlt)

theorem assemble_lut (i : Nibble) : assemble (.lut i.toNat) = some (encode (.lut i)) := by
  revert i; decide

theorem assemble_pack2 (a b : Index) : assemble (.pack2 a.toNat b.toNat) = some (encode (.pack2 a b)) := by
  revert a b; decide

theorem assemble_pack2Dup (a : Index) : assemble (.pack2Dup a.toNat) = some (encode (.pack2Dup a)) := by
  revert a; decide

theorem assemble_unpack1 (x : Byte) : assemble (.unpack1 x.toNat) = some (encode (.unpack1 x)) := by
  revert x; decide

theorem assemble_raw (w : Word) : assemble (.raw w.toNat) = some w := by
  simp [assemble, AsmCommand.wf, w.isLt]

end Sys2Proof
end

section
/-! PROOFS. WAIT and RUN as turns (spec/30_encoding.md R100): a run through the turns of WAIT, and the turns of a RUN line. -/

namespace Sys2Proof.Machine

variable {s t : State}

/-- A run takes its first step and goes on from there. -/
theorem core_run_succ (h : step s = .next t) (k : Nat) : Sys2Proof.core.run (k + 1) s = Sys2Proof.core.run k t := by
  have hcore : Sys2Proof.core.step s = .next t := h
  simp only [Host.Core.run, hcore]

/-- A step whose turn is a host read at a register's offset answers that register's word. -/
theorem step_read_register (hwf : s.cfg.wf = true) {off : Offset} {r : Reg} (hoff : off.toNat = regOffset r)
    {rest : List Turn} (h : s.turns = .host (.read off) :: rest) :
    step s = .next (({ s with turns := rest } : State).answerRead (s.readReg r)) := by
  rw [step_eq_turnStep hwf, State.turnStep_cons h]
  exact congrArg Host.Outcome.next (State.hostAccess_read_register _ hoff)

/-- After the engine's completing step the block is IDLE: it was, or its command completed (R183, R185). -/
theorem engineStep_leaves_idle (s : State) :
    ∃ t, s.engineStep = .next t ∧ t.busy = false ∧ t.cfg = s.cfg ∧ t.turns = s.turns := by
  rcases engineStep_cases s with ⟨hidle, e⟩ | ⟨w, _, _, err, -, -, e⟩ | ⟨_, _, _, i, -, -, e⟩ <;> rw [e]
  · exact ⟨s, rfl, State.busy_idle hidle, rfl, rfl⟩
  · have hc := completes_raise (CommandKeeps.refl s) (decodeErrCode err) w
    exact ⟨_, rfl, hc.busy, hc.keeps.cfg, hc.keeps.turns⟩
  · obtain ⟨t, ht, hc⟩ := exec_completes s i
    exact ⟨t, ht, hc.busy, hc.keeps.cfg, hc.keeps.turns⟩

/-- The turns of WAIT run to a STATUS read with BUSY = 0 (R100): each poll leaves the block as it was but for the answer and the
turn taken, and the completing step leaves it IDLE for the last read. -/
theorem run_waitTurns (polls : Nat) (hwf : s.cfg.wf = true) (h : s.turns = waitTurns polls) :
    ∃ t v, Sys2Proof.core.run (polls + 2) s = .next t ∧ t.busy = false ∧ t.turns = [] ∧ t.answer = some (.read v .ok) ∧
      v.getLsbD 0 = false := by
  induction polls generalizing s with
  | zero =>
    obtain ⟨t, ht, hbusy, hcfg, hturns⟩ := engineStep_leaves_idle { s with turns := [.host (.read 0x008)] }
    have hcomplete : step s = .next t := by rw [step_eq_turnStep hwf, State.turnStep_cons h]; exact ht
    have hread := step_read_register (s := t) (hcfg ▸ hwf) (off := 0x008) (r := .status) rfl hturns
    refine ⟨({ t with turns := [] } : State).answerRead t.statusWord, t.statusWord, ?_, hbusy, rfl, rfl,
      t.statusWord_flags.1.trans hbusy⟩
    rw [core_run_succ hcomplete, core_run_succ hread]
    rfl
  | succ polls ih =>
    have hpoll := step_read_register hwf (off := 0x008) (r := .status) rfl (rest := waitTurns polls) h
    rw [core_run_succ hpoll]
    exact ih hwf rfl

theorem cmdTurns_of_assemble {c : AsmCommand} {w : Word} (h : assemble c = some w) :
    cmdTurns c = some [.host (.write 0x00C w 0b1111)] := by
  simp [cmdTurns, h, writeTurns, targetOffset, targetByteOffset, regOffset]

theorem cmdTurns_of_refused {c : AsmCommand} (h : assemble c = none) : cmdTurns c = none := by
  rw [cmdTurns, h]; rfl

end Sys2Proof.Machine
end

section
/-! PROOFS. The statements of spec/30_encoding.md. -/

namespace Sys2Proof.Machine

/-- Settles O1, by the cases of the command. -/
theorem decodeOfEncodeIsTheCommand : Obligations.DecodeOfEncodeIsTheCommand := fun i _ => decode_encode i

/-- Settles O2: a decoded word matches its command's row, so it is the word of a command, and that one decodes back (O1). -/
theorem encodeOfDecodeIsTheWord : Obligations.EncodeOfDecodeIsTheWord := fun _ _ => encode_of_decode

/-- Settles O3: `matchesRow_iff_decode`; two rows matching one word are the row of the one command it decodes to. -/
theorem wordIsCommandExactlyWhenItsRowMatches : Obligations.WordIsCommandExactlyWhenItsRowMatches := by
  have hiff : ∀ (w : Word) (row : OpcodeRow), row ∈ opcodeRows →
      (matchesRow w row = true ↔ ∃ i, decode w = .command i ∧ opcodeRow i = row) := by
    intro w row hrow
    obtain ⟨i, rfl⟩ := exists_opcodeRow hrow
    exact matchesRow_iff_decode
  refine ⟨hiff, fun w row row' hrow hrow' hmatch hmatch' => ?_⟩
  obtain ⟨i, hi, rfl⟩ := (hiff w row hrow).mp hmatch
  obtain ⟨i', hi', rfl⟩ := (hiff w row' hrow').mp hmatch'
  cases hi.symm.trans hi'
  rfl

/-- Settles O4. -/
theorem errorWordsAreTheReservedOnes : Obligations.ErrorWordsAreTheReservedOnes :=
  fun _ => ⟨decode_eq_illegalOpcode_iff, decode_eq_reservedField_iff⟩

/-- Settles O5, line by line. -/
theorem assemblerEncodesEachLine : Obligations.AssemblerEncodesEachLine :=
  ⟨rfl, rfl, rfl, rfl, fun r g b => ⟨assemble_quant r g b, assemble_quantWord r g b⟩, assemble_lut, assemble_pack2,
   assemble_pack2Dup, assemble_unpack1, assemble_raw, fun _ => assemble_eq_none⟩

/-- Settles O6: the decoder evaluated on the seven words. -/
theorem writtenOutWordsDecode : Obligations.WrittenOutWordsDecode := by
  unfold Obligations.WrittenOutWordsDecode
  decide

/-- Settles O60: `run_waitTurns`, by induction on the polls, and the turns of the CMD line in front of WAIT's. -/
theorem waitEndsWithBusyZero : Obligations.WaitEndsWithBusyZero := by
  refine ⟨fun polls s => run_waitTurns polls, fun polls c w h => ?_, fun polls c h => ?_⟩
  · rw [lineTurns, runTurns, cmdTurns_of_assemble h]
    rfl
  · rw [lineTurns, runTurns, cmdTurns_of_refused h]
    rfl

end Sys2Proof.Machine
end

section
/-! PROOFS. The terms of spec/40_quantizer.md: distances as exact squares (R112, R114), the scan for the nearest entry (R113), the
distinct palette (R111), the nibbles of an element command (R150) and what a command that only sets the results leaves (R183). -/

namespace Sys2Proof.Machine

/-! ### Distances (R112, R114) -/

/-- The exact square, in which the sign of the difference is lost (R8). -/
theorem squareDiff_cast (x y : Nat) : (squareDiff x y : Int) = ((x : Int) - y) ^ 2 := by
  rw [squareDiff, Nat.cast_mul, Int.natCast_natAbs, abs_mul_abs_self, sq]

theorem squareDiff_eq_zero {x y : Nat} : squareDiff x y = 0 ↔ x = y := by
  rw [squareDiff, mul_self_eq_zero, Int.natAbs_eq_zero, sub_eq_zero, Nat.cast_inj]

theorem squareDiff_le {x y m : Nat} (hx : x ≤ m) (hy : y ≤ m) : squareDiff x y ≤ m * m := by
  have hdiff : ((x : Int) - y).natAbs ≤ m := by omega
  exact Nat.mul_le_mul hdiff hdiff

theorem squareDiff_mul_right (x y m : Nat) : squareDiff (x * m) (y * m) = squareDiff x y * (m * m) := by
  have hdiff : ((x * m : Nat) : Int) - (y * m : Nat) = ((x : Int) - y) * m := by push_cast; ring
  rw [squareDiff, hdiff, Int.natAbs_mul, Int.natAbs_natCast, mul_mul_mul_comm, squareDiff]

theorem dist8_cast (c : Config) (t : Rgb) (j : Index) :
    (dist8 c t j : Int) = ((t.r.toNat : Int) - (paletteColour c j).r.toNat) ^ 2 +
      ((t.g.toNat : Int) - (paletteColour c j).g.toNat) ^ 2 + ((t.b.toNat : Int) - (paletteColour c j).b.toNat) ^ 2 := by
  simp only [dist8, Nat.cast_add, squareDiff_cast]

theorem distW_cast (c : Config) (v : WorkPixel) (j : Index) :
    (distW c v j : Int) = ((v.r : Int) - (paletteColour c j).r.toNat * 2 ^ c.fracBits) ^ 2 +
      ((v.g : Int) - (paletteColour c j).g.toNat * 2 ^ c.fracBits) ^ 2 +
      ((v.b : Int) - (paletteColour c j).b.toNat * 2 ^ c.fracBits) ^ 2 := by
  simp only [distW, scaledColour, Nat.cast_add, squareDiff_cast, Nat.cast_mul, Nat.cast_pow, Nat.cast_ofNat]

/-- Three channels, each at most 255 away: 3 · 255² = 195075 (R112). -/
theorem dist8_le (c : Config) (t : Rgb) (j : Index) : dist8 c t j ≤ 195075 := by
  have hchannel (x y : Byte) : squareDiff x.toNat y.toNat ≤ 255 * 255 :=
    squareDiff_le (Nat.le_of_lt_succ x.isLt) (Nat.le_of_lt_succ y.isLt)
  have hr := hchannel t.r (paletteColour c j).r
  have hg := hchannel t.g (paletteColour c j).g
  have hb := hchannel t.b (paletteColour c j).b
  simp only [dist8]
  omega

/-- Three channels, each at most MAXV away: 3 · 255² · 2^(2F), and 3 · 255² is below 2^18 (R114). -/
theorem distW_lt {c : Config} {v : WorkPixel} (h : v.InRange c) (j : Index) : distW c v j < 2 ^ (2 * c.fracBits + 18) := by
  obtain ⟨hr, hg, hb⟩ := h
  obtain ⟨hqr, hqg, hqb⟩ := scaledColour_inRange c j
  calc distW c v j ≤ maxWork c * maxWork c + maxWork c * maxWork c + maxWork c * maxWork c :=
        Nat.add_le_add (Nat.add_le_add (squareDiff_le hr hqr) (squareDiff_le hg hqg)) (squareDiff_le hb hqb)
    _ = 2 ^ (2 * c.fracBits) * 195075 := by unfold maxWork; ring
    _ < 2 ^ (2 * c.fracBits) * 2 ^ 18 := Nat.mul_lt_mul_of_pos_left (by decide) (Nat.two_pow_pos _)
    _ = 2 ^ (2 * c.fracBits + 18) := (Nat.pow_add 2 _ _).symm

/-- Only an entry's own colour is at distance 0 from it. -/
theorem dist8_eq_zero {c : Config} {t : Rgb} {j : Index} : dist8 c t j = 0 ↔ t = paletteColour c j := by
  cases ht : t
  cases hq : paletteColour c j
  simp [dist8, hq, squareDiff_eq_zero, BitVec.toNat_inj, and_assoc]

/-- Loading scales both colours by 2^F, so every distance by 2^(2F) (R114, R131). -/
theorem distW_loadWork (c : Config) (t : Rgb) (i : Index) :
    distW c (loadWork c t) i = dist8 c t i * 2 ^ (2 * c.fracBits) := by
  simp only [distW, loadWork, scaledColour, dist8, squareDiff_mul_right]
  ring

/-! ### The scan for the nearest entry (R113) -/

/-- The scan along rising indices ends at the first minimum: an index at the least distance of those met, every lower one
strictly farther. -/
theorem foldl_nearest_isFirstMinimum (dist : Index → Nat) (best : Index) (rest : List Index)
    (hrising : (best :: rest).Pairwise (· < ·)) {k : Index}
    (hk : rest.foldl (fun best i => if dist i < dist best then i else best) best = k) :
    ∀ j ∈ best :: rest, dist k ≤ dist j ∧ (j < k → dist k < dist j) := by
  induction rest generalizing best with
  | nil =>
    subst hk
    intro j hj
    rw [List.mem_singleton.mp hj]
    exact ⟨Nat.le_refl _, fun h => absurd h (BitVec.lt_irrefl _)⟩
  | cons i rest ih =>
    obtain ⟨hbest, hi⟩ := List.pairwise_cons.mp hrising
    have hbi : best < i := hbest i List.mem_cons_self
    rw [List.foldl_cons] at hk
    split at hk
    · -- `i` is taken, strictly nearer than the best before it
      rename_i hnearer
      have hmin := ih i hi hk
      have hki := (hmin i List.mem_cons_self).1
      intro j hj
      rcases List.mem_cons.mp hj with rfl | hj
      · exact ⟨by omega, fun _ => by omega⟩
      · exact hmin j hj
    · -- the best stays; where the scan ends past `i`, its end is strictly nearer than the best and so than `i`
      rename_i hnotNearer
      have hskip : (best :: rest).Pairwise (· < ·) :=
        List.pairwise_cons.mpr ⟨fun j hj => hbest j (List.mem_cons_of_mem _ hj), hi.of_cons⟩
      have hmin := ih best hskip hk
      obtain ⟨hkb, hkbStrict⟩ := hmin best List.mem_cons_self
      intro j hj
      rcases List.mem_cons.mp hj with rfl | hj
      · exact ⟨hkb, hkbStrict⟩
      rcases List.mem_cons.mp hj with rfl | hj
      · refine ⟨by omega, fun hjk => ?_⟩
        have := hkbStrict (BitVec.lt_trans hbi hjk)
        omega
      · exact hmin j (List.mem_cons_of_mem _ hj)

/-- The scan of R113 and R114 meets every index. -/
theorem firstNearest_isFirstMinimum (dist : Index → Nat) (j : Index) :
    dist (firstNearest dist) ≤ dist j ∧ (j < firstNearest dist → dist (firstNearest dist) < dist j) := by
  have hall : ∀ i : Index, i ∈ (0 :: [1, 2, 3, 4, 5, 6, 7] : List Index) := by decide
  exact foldl_nearest_isFirstMinimum dist 0 [1, 2, 3, 4, 5, 6, 7] (by decide) rfl j (hall j)

/-- The scan compares distances alone, so a common positive factor does not move it. -/
theorem firstNearest_mul_right (dist : Index → Nat) {m : Nat} (hm : 0 < m) :
    firstNearest (fun i => dist i * m) = firstNearest dist := by
  simp only [firstNearest, Nat.mul_lt_mul_right hm]

theorem nearestW_loadWork (c : Config) (t : Rgb) : nearestW c (loadWork c t) = nearest8 c t := by
  unfold nearestW nearest8
  rw [funext (distW_loadWork c t)]
  exact firstNearest_mul_right _ (Nat.two_pow_pos _)

/-! ### The palette (R110, R111) -/

/-- Distinct entries are entries no two indices share (R111). -/
theorem Config.paletteDistinct_iff {c : Config} :
    c.paletteDistinct = true ↔ ∀ i j : Index, paletteColour c i = paletteColour c j → i = j := by
  have hlen : c.palette.toList.length = 8 := c.palette.length_toList
  rw [Config.paletteDistinct, decide_eq_true_iff, List.Nodup, List.pairwise_iff_getElem]
  simp only [Vector.getElem_toList]
  constructor
  · intro h i j heq
    rcases Nat.lt_trichotomy i.toNat j.toNat with hlt | he | hlt
    · exact absurd heq (h _ _ (by omega) (by omega) hlt)
    · exact BitVec.eq_of_toNat_eq he
    · exact absurd heq.symm (h _ _ (by omega) (by omega) hlt)
  · intro h i j hi hj hlt heq
    have hij := h ⟨⟨i, by omega⟩⟩ ⟨⟨j, by omega⟩⟩ heq
    have : i = j := congrArg BitVec.toNat hij
    omega

/-- R115: a palette colour is at distance 0 from its own entry, and from no other. -/
theorem nearest8_paletteColour {c : Config} (h : c.paletteDistinct = true) (i : Index) : nearest8 c (paletteColour c i) = i := by
  have hself : dist8 c (paletteColour c i) i = 0 := dist8_eq_zero.mpr rfl
  have hmin : dist8 c (paletteColour c i) (nearest8 c (paletteColour c i)) ≤ _ := (firstNearest_isFirstMinimum _ i).1
  have hzero := dist8_eq_zero.mp (Nat.eq_zero_of_le_zero (hmin.trans_eq hself))
  exact (Config.paletteDistinct_iff.mp h _ _ hzero).symm

/-! ### Turns always answer (R200, R212) -/

theorem takeTurn_answers (s : State) (turn : Turn) : ∃ t, s.takeTurn turn = .next t := by
  cases turn with
  | host | hardReset | engineWork => exact ⟨_, rfl⟩
  | engineComplete =>
    obtain ⟨t, ht, -⟩ := engineStep_leaves_idle s
    exact ⟨t, ht⟩

/-- No turn stops the block: only `step`'s checks of the configuration do. -/
theorem turnStep_answers (s : State) : ∃ t, s.turnStep = .next t := by
  cases hturns : s.turns with
  | nil =>
    obtain ⟨t, ht, -⟩ := engineStep_leaves_idle s
    exact ⟨t, (State.turnStep_nil hturns).trans ht⟩
  | cons turn rest => rw [State.turnStep_cons hturns]; exact takeTurn_answers _ turn

/-- Under parameters in range the step is refused exactly where the palette is not distinct (R6, R111). -/
theorem step_refused_iff {s : State} (h : s.cfg.inRange = true) :
    step s = .refused .paletteNotDistinct ↔ s.cfg.paletteDistinct = false := by
  unfold step
  rw [if_pos h]
  cases s.cfg.paletteDistinct with
  | false => simp
  | true =>
    obtain ⟨t, ht⟩ := turnStep_answers s
    simp [ht]

/-! ### Element commands (R116, R117, R153) -/

theorem highNibble_toNat (x : Byte) : (highNibble x).toNat = x.toNat / 16 := by
  rw [highNibble, BitVec.extractLsb'_toNat, Nat.shiftRight_eq_div_pow]
  exact Nat.mod_eq_of_lt (Nat.div_lt_of_lt_mul x.isLt)

theorem lowNibble_toNat (x : Byte) : (lowNibble x).toNat = x.toNat % 16 := BitVec.extractLsb'_toNat ..

/-- A command that only sets the results completes and keeps the error record, memory and WORK (R183). -/
theorem setResults_complete_frame (s : State) (r0 r1 : Word) :
    Completes s (s.setResults r0 r1).complete ∧ ErrorKept s (s.setResults r0 r1).complete ∧
    StorageKept s (s.setResults r0 r1).complete :=
  ⟨completes_setResults s r0 r1, ⟨rfl, rfl⟩, memoryKept_complete rfl rfl, rfl⟩

/-- LUT of a nibble 0 to 7 (R117). -/
theorem exec_lut_of_lt {idx : Nibble} (h : idx.toNat < 8) (s : State) :
    exec (.lut idx) s = .next (s.setResults (paletteWord s.cfg (indexOf idx.toNat)) 0).complete := by
  change execLut idx s = _
  rw [execLut, nibbleIndex_of_lt h, indexOf, BitVec.ofNat_toNat]

/-- LUT of a nibble 8 to 15 (R117, R204). -/
theorem exec_lut_of_ge {idx : Nibble} (h : 8 ≤ idx.toNat) (s : State) :
    exec (.lut idx) s = .next (s.raise .badIndex s.lastcmd) := by
  change execLut idx s = _
  rw [execLut, nibbleIndex_of_ge h]

/-- UNPACK1 of a byte with a nibble 8 to 15, whichever it is (R153, R204). -/
theorem exec_unpack1_of_bad {x : Byte} (h : 8 ≤ x.toNat / 16 ∨ 8 ≤ x.toNat % 16) (s : State) :
    exec (.unpack1 x) s = .next (s.raise .badIndex s.lastcmd) := by
  rw [← highNibble_toNat, ← lowNibble_toNat] at h
  change execUnpack1 x s = _
  unfold execUnpack1
  rcases h with hhigh | hlow
  · rw [nibbleIndex_of_ge hhigh]
  · rw [nibbleIndex_of_ge hlow]
    split <;> rfl

end Sys2Proof.Machine
end

section
/-! PROOFS. The statements of spec/40_quantizer.md. -/

namespace Sys2Proof.Machine

/-- Settles O12: in range, the step is refused exactly where the palette is not distinct (`step_refused_iff`), which is where two
indices share a colour. -/
theorem stepRefusesEqualPaletteEntries : Obligations.StepRefusesEqualPaletteEntries := by
  refine ⟨fun s h => ?_, by decide⟩
  rw [step_refused_iff h, ← Bool.not_eq_true, Config.paletteDistinct_iff]
  push Not
  exact exists₂_congr fun _ _ => and_comm

/-- Settles O19: each distance channel by channel, the index by the scan's invariant (`foldl_nearest_isFirstMinimum`). -/
theorem nearestIsTheFirstMinimum : Obligations.NearestIsTheFirstMinimum :=
  ⟨fun c t j => ⟨dist8_cast c t j, dist8_le c t j, firstNearest_isFirstMinimum (dist8 c t) j⟩,
   fun c v j => ⟨distW_cast c v j, fun hr hg hb => distW_lt ⟨hr, hg, hb⟩ j, firstNearest_isFirstMinimum (distW c v) j⟩⟩

/-- Settles O20. -/
theorem paletteColourIsItsOwnNearest : Obligations.PaletteColourIsItsOwnNearest := fun _ h i => nearest8_paletteColour h i

/-- Settles O21: the load scales every distance by one factor, which the scan does not see. -/
theorem workingQuantizerAgreesOnScaledColours : Obligations.WorkingQuantizerAgreesOnScaledColours :=
  fun c t => ⟨distW_loadWork c t, nearestW_loadWork c t⟩

/-- Settles O22. -/
theorem quantWritesNearestIndexAndColour : Obligations.QuantWritesNearestIndexAndColour := by
  intro r g b s
  have hindex (k : Index) : (k.setWidth 32).toNat = k.toNat := BitVec.toNat_setWidth_of_le (by decide)
  exact ⟨_, nearest8 s.cfg ⟨r, g, b⟩, rfl, firstNearest_isFirstMinimum _, hindex _, rgbWord_isColourWord _,
    setResults_complete_frame s _ _⟩

/-- Settles O23. -/
theorem lutReadsThePalette : Obligations.LutReadsThePalette :=
  fun _ s h => ⟨_, exec_lut_of_lt h s, rgbWord_isColourWord _, rfl, setResults_complete_frame s _ _⟩

/-- Settles O24: both commands raise before they write anything. -/
theorem invalidNibbleAbortsElementCommand : Obligations.InvalidNibbleAbortsElementCommand :=
  ⟨fun _ s h => ⟨_, exec_lut_of_ge h s, abortsUntouched_raise s _ _⟩,
   fun _ s h => ⟨_, exec_unpack1_of_bad h s, abortsUntouched_raise s _ _⟩⟩

end Sys2Proof.Machine
end

section
/-! PROOFS. The terms of spec/41_dither.md: shares and their accumulation (R134, R136), row-major positions (R132), the diffusion
of one pixel's error (R135) and what a dither leaves (R137, R140). -/

namespace Sys2Proof.Machine

/-! ### Error shares and their accumulation (R134, R136) -/

/-- A share is one rounded division of the magnitude, so it is odd in the error (R134). -/
theorem share_neg (e : Int) (w : Nat) : share (-e) w = -share e w := by
  rcases lt_trichotomy e 0 with h | rfl | h
  · rw [share, share, if_pos (by omega), if_neg (by omega), neg_neg]
  · rw [neg_zero, share, if_pos (Int.le_refl 0), Int.zero_mul]; rfl
  · rw [share, share, if_neg (by omega), if_pos (by omega), neg_neg]

theorem share_zero (w : Nat) : share 0 w = 0 := by
  rw [share, if_pos (Int.le_refl 0), Int.zero_mul]; rfl

theorem clampWork_of_le {maxv v : Nat} (h : v ≤ maxv) : clampWork maxv v = v := by
  rw [clampWork, if_neg (by omega), if_neg (by omega), Int.toNat_natCast]

/-- No error: a palette colour's (R140), and a pixel's that is not processed yet. -/
def ErrorTriple.zero : ErrorTriple := ⟨0, 0, 0⟩

/-- A value in range is its own clamp, so an error of 0 changes nothing (R136, R140). -/
theorem accumulate_zero {c : Config} {v : WorkPixel} (h : v.InRange c) (w : Nat) : accumulate c w .zero v = v := by
  obtain ⟨hr, hg, hb⟩ := h
  simp only [accumulate, ErrorTriple.zero, share_zero, Int.add_zero, clampWork_of_le hr, clampWork_of_le hg, clampWork_of_le hb]

theorem quantError_scaledColour (c : Config) (k : Index) : quantError c (scaledColour c k) k = .zero := by
  simp only [quantError, sub_self, ErrorTriple.zero]

/-! ### Row-major positions (R132) -/

/-- Within a row's width, a pixel's index tells its row and its column. -/
theorem pixelIndex_inj {W x x' y y' : Nat} (hx : x < W) (hx' : x' < W) (h : y * W + x = y' * W + x') : x = x' ∧ y = y' := by
  have hmod := congrArg (· % W) h
  simp only [Nat.mul_add_mod_self_right, Nat.mod_eq_of_lt, hx, hx'] at hmod
  subst hmod
  exact ⟨rfl, Nat.eq_of_mul_eq_mul_right (by omega) (Nat.add_right_cancel h)⟩

theorem pixelIndex_lt {W H x y : Nat} (hx : x < W) (hy : y < H) : y * W + x < W * H := by
  calc y * W + x < (y + 1) * W := by rw [Nat.succ_mul]; omega
    _ ≤ W * H := by rw [Nat.mul_comm W H]; exact Nat.mul_le_mul_right W hy

/-- The n-th pixel in row-major order is the one with index n. -/
theorem pixelOrder_eq_map (W H : Nat) : pixelOrder W H = (List.range (W * H)).map (fun n => (n % W, n / W)) := by
  induction H with
  | zero => rfl
  | succ H ih =>
    have hrow : (List.range W).map (fun x => (x, H)) = (List.range W).map (fun x => ((W * H + x) % W, (W * H + x) / W)) := by
      refine List.map_congr_left fun x hx => ?_
      have hxW := List.mem_range.mp hx
      rw [Nat.mul_add_mod, Nat.mod_eq_of_lt hxW, Nat.mul_add_div (by omega), Nat.div_eq_of_lt hxW, Nat.add_zero]
    rw [pixelOrder] at ih ⊢
    rw [List.range_succ, List.flatMap_append, ih, Nat.mul_succ, List.range_add, List.map_append, List.map_map]
    simpa using hrow

/-- A fold over the pixels of a raster, as an induction on how many are done: the next pixel is the one whose index is that
number. -/
theorem foldl_pixelOrder {α : Type} {W H : Nat} {motive : Nat → α → Prop} (f : α → Nat × Nat → α) (init : α)
    (h0 : motive 0 init)
    (hstep : ∀ a x y, x < W → y < H → motive (y * W + x) a → motive (y * W + x + 1) (f a (x, y))) :
    motive (W * H) ((pixelOrder W H).foldl f init) := by
  have hdone : ∀ n, n ≤ W * H → motive n (((List.range n).map (fun n => (n % W, n / W))).foldl f init) := by
    intro n
    induction n with
    | zero => exact fun _ => h0
    | succ n ih =>
      intro hn
      have hW : 0 < W := Nat.pos_of_mul_pos_right (by omega : 0 < W * H)
      rw [List.range_succ, List.map_append, List.foldl_append]
      have hidx : n / W * W + n % W = n := Nat.div_add_mod' n W
      have := hstep _ (n % W) (n / W) (Nat.mod_lt n hW) (Nat.div_lt_of_lt_mul hn) (by rw [hidx]; exact ih (by omega))
      rwa [hidx] at this
  rw [pixelOrder_eq_map]
  exact hdone _ (Nat.le_refl _)

/-! ### Diffusion (R135, R136) -/

/-- A diffusion to (nx, ny) accumulates into that pixel's working value and leaves every other pixel's alone. -/
theorem getElem?_diffuse (c : Config) {W H x y : Nat} (hx : x < W) (hy : y < H) (nx : Int) (ny : Nat) (w : Nat) (e : ErrorTriple)
    (work : List WorkPixel) :
    (diffuse c W H nx ny w e work)[y * W + x]? =
      if nx = x ∧ ny = y then work[y * W + x]?.map (accumulate c w e) else work[y * W + x]? := by
  unfold diffuse
  by_cases hin : 0 ≤ nx ∧ nx < W ∧ ny < H
  · obtain ⟨h0, hW, hH⟩ := hin
    obtain ⟨nx, rfl⟩ := Int.eq_ofNat_of_zero_le h0
    have htoNat : ((ny : Int) * W + nx).toNat = ny * W + nx := by
      rw [← Nat.cast_mul, ← Nat.cast_add, Int.toNat_natCast]
    have hiff : ny * W + nx = y * W + x ↔ (nx : Int) = x ∧ ny = y := by
      rw [Nat.cast_inj]
      exact ⟨pixelIndex_inj (by omega) hx, fun ⟨hx, hy⟩ => by rw [hx, hy]⟩
    rw [if_neg (by omega), htoNat, List.getElem?_modify]
    simp only [hiff]
    split <;> simp
  · rw [if_pos (by omega), if_neg (by omega)]

theorem length_diffuse (c : Config) (W H : Nat) (nx ny : Int) (w : Nat) (e : ErrorTriple) (work : List WorkPixel) :
    (diffuse c W H nx ny w e work).length = work.length := by
  unfold diffuse
  split
  · rfl
  · exact List.length_modify ..

theorem length_diffuseAll (c : Config) (W H x y : Nat) (e : ErrorTriple) (work : List WorkPixel) :
    (diffuseAll c W H x y e work).length = work.length := by
  simp only [diffuseAll, length_diffuse]

theorem diffuse_zero {c : Config} {work : List WorkPixel} (h : WorkInRange c work) (W H : Nat) (nx ny : Int) (w : Nat) :
    diffuse c W H nx ny w .zero work = work := by
  unfold diffuse
  split
  · rfl
  · refine List.ext_getElem (List.length_modify ..) fun p hp _ => ?_
    rw [List.getElem_modify]
    split
    · exact accumulate_zero (h _ (List.getElem_mem _)) w
    · rfl

theorem diffuseAll_zero {c : Config} {work : List WorkPixel} (h : WorkInRange c work) (W H x y : Nat) :
    diffuseAll c W H x y .zero work = work := by
  simp only [diffuseAll, diffuse_zero h]

/-! ### What a dither leaves (R130, R137, R140) -/

theorem ditherPixel_work_length (c : Config) (W H : Nat) (d : DitherState) (xy : Nat × Nat) :
    (ditherPixel c W H d xy).work.length = d.work.length := by
  simp only [ditherPixel, length_diffuseAll, List.length_set]

theorem ditherFrame_work_length (c : Config) (W H : Nat) (px : List Rgb) : (ditherFrame c W H px).work.length = px.length :=
  List.foldlRecOn (motive := fun d : DitherState => d.work.length = px.length) _ _ (List.length_map _)
    fun d hd xy _ => (ditherPixel_work_length c W H d xy).trans hd

/-- R137: a dither puts out palette colours alone. -/
theorem ditherFrame_out_palette (c : Config) (W H : Nat) (px : List Rgb) :
    ∀ t ∈ (ditherFrame c W H px).out, ∃ k, t = paletteColour c k := by
  refine List.foldlRecOn (motive := fun d : DitherState => ∀ t ∈ d.out, ∃ k, t = paletteColour c k) _ _
    (fun _ ht => absurd ht List.not_mem_nil) fun d hd xy _ t ht => ?_
  rcases List.mem_append.mp ht with ht | ht
  · exact hd t ht
  · exact ⟨_, List.mem_singleton.mp ht⟩

/-- A pixel that is a palette colour has no error, and so changes no working value (R115, R140). -/
theorem ditherPixel_of_palette {c : Config} (hdistinct : c.paletteDistinct = true) {W H x y : Nat} {d : DitherState}
    (hd : WorkInRange c d.work) {k : Index} (hp : d.work[y * W + x]? = some (scaledColour c k)) :
    ditherPixel c W H d (x, y) = { work := d.work, out := d.out ++ [paletteColour c k] } := by
  have hv : d.work.getD (y * W + x) ⟨0, 0, 0⟩ = scaledColour c k := by rw [List.getD_eq_getElem?_getD, hp, Option.getD_some]
  have hk : nearestW c (scaledColour c k) = k :=
    (nearestW_loadWork c (paletteColour c k)).trans (nearest8_paletteColour hdistinct k)
  have hset : d.work.set (y * W + x) (scaledColour c k) = d.work := by
    obtain ⟨hlt, hget⟩ := List.getElem?_eq_some_iff.mp hp
    rw [← hget, List.set_getElem_self]
  simp only [ditherPixel, hv, hk, quantError_scaledColour, hset, diffuseAll_zero hd]

/-- R140: a raster of palette colours is its own dither, and WORK stays as loaded. -/
theorem ditherFrame_of_palette {c : Config} (hdistinct : c.paletteDistinct = true) {W H : Nat} {px : List Rgb}
    (hlen : px.length = W * H) (hpx : ∀ t ∈ px, ∃ k, t = paletteColour c k) :
    ditherFrame c W H px = { work := px.map (loadWork c), out := px } := by
  have hload : WorkInRange c (px.map (loadWork c)) := by
    intro v hv
    obtain ⟨t, -, rfl⟩ := List.mem_map.mp hv
    exact loadWork_inRange c t
  have hframe := foldl_pixelOrder (motive := fun n d => d = { work := px.map (loadWork c), out := px.take n })
    (ditherPixel c W H) { work := px.map (loadWork c), out := [] } rfl fun d x y hx hy hd => by
      have hp : y * W + x < px.length := (pixelIndex_lt hx hy).trans_eq hlen.symm
      obtain ⟨k, hk⟩ := hpx _ (List.getElem_mem hp)
      have hwork : d.work[y * W + x]? = some (scaledColour c k) := by
        rw [hd, List.getElem?_map, List.getElem?_eq_getElem hp, hk]; rfl
      rw [ditherPixel_of_palette hdistinct (by rw [hd]; exact hload) hwork, hd, ← hk, List.take_append_getElem hp]
  rw [← hlen, List.take_length] at hframe
  exact hframe

end Sys2Proof.Machine
end

section
/-! PROOFS. Spreading and gathering (spec/41_dither.md R135, R136): the shares a pixel receives as one fold over its sources, and
the simulation between a dither that spreads errors and one that gathers them. -/

namespace Sys2Proof.Machine

/-! ### Gathering (R136) -/

/-- The pixels whose errors reach (x, y), each by its index and with its share's weight, in the order R136 lists. -/
def shareSources (W x y : Nat) : List (Nat × Nat) :=
  (if 0 < x ∧ 0 < y then [((y - 1) * W + (x - 1), 1)] else []) ++ (if 0 < y then [((y - 1) * W + x, 5)] else []) ++
  (if x + 1 < W ∧ 0 < y then [((y - 1) * W + (x + 1), 3)] else []) ++ (if 0 < x then [(y * W + (x - 1), 7)] else [])

/-- A working value after the shares from a list of sources; a pixel not processed yet has no error. -/
def gatherShares (c : Config) (errs : List ErrorTriple) (sources : List (Nat × Nat)) (v : WorkPixel) : WorkPixel :=
  sources.foldl (fun v src => accumulate c src.2 (errs.getD src.1 .zero) v) v

/-- R136's four steps are the fold over the sources. -/
theorem receivedWork_eq_gatherShares (c : Config) (W : Nat) (errs : List ErrorTriple) (x y : Nat) (v : WorkPixel) :
    receivedWork c W errs x y v = gatherShares c errs (shareSources W x y) v := by
  simp only [receivedWork, shareSources, gatherShares, List.foldl_append, ErrorTriple.zero]
  (repeat' split) <;> rfl

/-- The order R136 lists is the order of processing (R132). -/
theorem shareSources_rising {W x : Nat} (hx : x < W) (y : Nat) : (shareSources W x y).Pairwise (fun a b => a.1 < b.1) := by
  cases y with
  | zero => by_cases hfirst : 0 < x <;> simp [shareSources, hfirst]
  | succ y =>
    have hrow : (y + 1) * W = y * W + W := Nat.succ_mul y W
    by_cases hfirst : 0 < x <;> by_cases hlast : x + 1 < W <;> simp [shareSources, hfirst, hlast] <;> omega

/-- Sources that are not processed yet give nothing. -/
theorem gatherShares_of_unprocessed {c : Config} {v : WorkPixel} (h : v.InRange c) {errs : List ErrorTriple}
    {sources : List (Nat × Nat)} (hs : ∀ src ∈ sources, errs.length ≤ src.1) : gatherShares c errs sources v = v := by
  induction sources with
  | nil => rfl
  | cons src sources ih =>
    rw [List.forall_mem_cons] at hs
    unfold gatherShares at ih ⊢
    rw [List.foldl_cons, List.getD_eq_default _ _ hs.1, accumulate_zero h, ih hs.2]

/-- The share of pixel n's error, accumulated into a working value with these sources; nothing where n is none of them. -/
def shareFrom (c : Config) (sources : List (Nat × Nat)) (n : Nat) (e : ErrorTriple) (v : WorkPixel) : WorkPixel :=
  match sources.lookup n with
  | some w => accumulate c w e v
  | none => v

/-- Once one more pixel is processed, its share is the last one gathered. -/
theorem gatherShares_append {c : Config} {v : WorkPixel} (h : v.InRange c) (errs : List ErrorTriple) (e : ErrorTriple)
    {sources : List (Nat × Nat)} (hrising : sources.Pairwise (fun a b => a.1 < b.1)) :
    gatherShares c (errs ++ [e]) sources v = shareFrom c sources errs.length e (gatherShares c errs sources v) := by
  induction sources generalizing v with
  | nil => rfl
  | cons src sources ih =>
    obtain ⟨hlater, hrising⟩ := List.pairwise_cons.mp hrising
    have hcons (es : List ErrorTriple) : gatherShares c es (src :: sources) v =
      gatherShares c es sources (accumulate c src.2 (es.getD src.1 .zero) v) := rfl
    rw [hcons, hcons]
    by_cases heq : src.1 = errs.length
    · have hnew : (errs ++ [e]).getD src.1 .zero = e := by rw [heq]; simp
      rw [hnew, List.getD_eq_default _ _ heq.ge, accumulate_zero h, shareFrom, List.lookup_cons, beq_iff_eq.mpr heq.symm,
        gatherShares_of_unprocessed (accumulate_inRange c _ _ _) (fun b hb => by
          have := hlater b hb; rw [List.length_append, List.length_singleton]; omega),
        gatherShares_of_unprocessed h (fun b hb => by have := hlater b hb; omega)]
    · have hsame : (errs ++ [e]).getD src.1 .zero = errs.getD src.1 .zero := by
        rcases Nat.lt_or_ge src.1 errs.length with hlt | hge
        · exact List.getD_append _ _ _ _ hlt
        · rw [List.getD_eq_default _ _ hge, List.getD_eq_default _ _ (by rw [List.length_append, List.length_singleton]; omega)]
      rw [hsame, ih (accumulate_inRange c _ _ _) hrising, shareFrom, shareFrom, List.lookup_cons, beq_false_of_ne (Ne.symm heq)]

/-- The table of R135, read from the receiving pixel's side. -/
theorem lookup_shareSources {W x₀ x : Nat} (hx₀ : x₀ < W) (hx : x < W) (y₀ y : Nat) :
    (shareSources W x y).lookup (y₀ * W + x₀) =
      (((if x = x₀ + 1 ∧ y = y₀ + 1 then some 1 else none).or (if x = x₀ ∧ y = y₀ + 1 then some 5 else none)).or
        (if x + 1 = x₀ ∧ y = y₀ + 1 then some 3 else none)).or (if x = x₀ + 1 ∧ y = y₀ then some 7 else none) := by
  have hsource {p q : Prop} [Decidable p] [Decidable q] {px py : Nat} (w : Nat) (hpx : p → px < W)
      (hq : (p ∧ x₀ = px ∧ y₀ = py) ↔ q) :
      (if p then [(py * W + px, w)] else []).lookup (y₀ * W + x₀) = if q then some w else none := by
    have hindex (h : p) : y₀ * W + x₀ = py * W + px ↔ x₀ = px ∧ y₀ = py :=
      ⟨pixelIndex_inj hx₀ (hpx h), fun ⟨h, h'⟩ => by rw [h, h']⟩
    by_cases hp : p
    · by_cases hq' : q
      · rw [if_pos hp, if_pos hq', List.lookup_cons, beq_iff_eq.mpr ((hindex hp).mpr (hq.mpr hq').2)]
      · rw [if_pos hp, if_neg hq', List.lookup_cons, beq_false_of_ne fun h => hq' (hq.mp ⟨hp, (hindex hp).mp h⟩)]
        rfl
    · rw [if_neg hp, if_neg fun h => hp (hq.mpr h).1]
      rfl
  unfold shareSources
  simp only [List.lookup_append]
  rw [hsource (q := x = x₀ + 1 ∧ y = y₀ + 1) 1, hsource (q := x = x₀ ∧ y = y₀ + 1) 5,
    hsource (q := x + 1 = x₀ ∧ y = y₀ + 1) 3, hsource (q := x = x₀ + 1 ∧ y = y₀) 7] <;> omega

/-- The diffusion of a pixel's error accumulates into each pixel the share that pixel has from it (R135, R136): no two of the four
neighbours are one pixel, so a pixel meets at most one of the four updates. -/
theorem getElem?_diffuseAll (c : Config) {W H x₀ x y : Nat} (hx₀ : x₀ < W) (hx : x < W) (hy : y < H) (y₀ : Nat)
    (e : ErrorTriple) (work : List WorkPixel) :
    (diffuseAll c W H x₀ y₀ e work)[y * W + x]? =
      work[y * W + x]?.map (shareFrom c (shareSources W x y) (y₀ * W + x₀) e) := by
  have hright : (x₀ : Int) + 1 = x ∧ y₀ = y ↔ x = x₀ + 1 ∧ y = y₀ := by omega
  have hbelowLeft : (x₀ : Int) - 1 = x ∧ y₀ + 1 = y ↔ x + 1 = x₀ ∧ y = y₀ + 1 := by omega
  have hbelow : (x₀ : Int) = x ∧ y₀ + 1 = y ↔ x = x₀ ∧ y = y₀ + 1 := by omega
  have hbelowRight : (x₀ : Int) + 1 = x ∧ y₀ + 1 = y ↔ x = x₀ + 1 ∧ y = y₀ + 1 := by omega
  unfold shareFrom
  simp only [diffuseAll, ← Nat.cast_add_one y₀, getElem?_diffuse c hx hy, lookup_shareSources hx₀ hx, hright, hbelowLeft,
    hbelow, hbelowRight]
  split_ifs
  any_goals omega
  all_goals simp

/-! ### Spreading and gathering (R135, R136) -/

/-- One pixel of the gathering dither (R136). -/
def gatherPixel (c : Config) (W : Nat) (px : List Rgb) (g : List (Index × ErrorTriple)) (xy : Nat × Nat) :
    List (Index × ErrorTriple) :=
  let v := receivedWork c W (g.map Prod.snd) xy.1 xy.2 (loadWork c (px.getD (xy.2 * W + xy.1) ⟨0, 0, 0⟩))
  g ++ [(nearestW c v, quantError c v (nearestW c v))]

theorem gatherFrame_eq_foldl (c : Config) (W H : Nat) (px : List Rgb) :
    gatherFrame c W H px = (pixelOrder W H).foldl (gatherPixel c W px) [] := rfl

/-- A spreading and a gathering dither in the middle of a frame, `n` pixels done: the same indices chosen, and every pixel to come
holds in WORK what it gathers from the pixels done. -/
structure SpreadsAsGathered (c : Config) (W H : Nat) (px : List Rgb) (n : Nat) (d : DitherState)
    (g : List (Index × ErrorTriple)) : Prop where
  done : g.length = n
  out : d.out = g.map (fun ke => paletteColour c ke.1)
  pending : ∀ x y, x < W → y < H → n ≤ y * W + x → d.work[y * W + x]? =
    some (receivedWork c W (g.map Prod.snd) x y (loadWork c (px.getD (y * W + x) ⟨0, 0, 0⟩)))

/-- Nothing is received before the first pixel is done. -/
theorem receivedWork_nil (c : Config) (W x y : Nat) (t : Rgb) : receivedWork c W [] x y (loadWork c t) = loadWork c t := by
  rw [receivedWork_eq_gatherShares]
  exact gatherShares_of_unprocessed (loadWork_inRange c t) fun _ _ => Nat.zero_le _

/-- With one more pixel done, its share is the last one received. -/
theorem receivedWork_append {c : Config} {v : WorkPixel} (h : v.InRange c) (errs : List ErrorTriple) (e : ErrorTriple)
    {W x : Nat} (hx : x < W) (y : Nat) :
    receivedWork c W (errs ++ [e]) x y v = shareFrom c (shareSources W x y) errs.length e (receivedWork c W errs x y v) := by
  rw [receivedWork_eq_gatherShares, receivedWork_eq_gatherShares, gatherShares_append h errs e (shareSources_rising hx y)]

/-- At the load (R131). -/
theorem spreadsAsGathered_load (c : Config) {W H : Nat} {px : List Rgb} (h : px.length = W * H) :
    SpreadsAsGathered c W H px 0 { work := px.map (loadWork c), out := [] } [] where
  done := rfl
  out := rfl
  pending x y hx hy _ := by
    have hp : y * W + x < px.length := (pixelIndex_lt hx hy).trans_eq h.symm
    rw [List.map_nil, receivedWork_nil, List.getElem?_map, List.getElem?_eq_getElem hp, List.getD_eq_getElem _ _ hp]
    rfl

/-- Each pixel's step keeps the two dithers together. -/
theorem SpreadsAsGathered.step {c : Config} {W H x y : Nat} {px : List Rgb} {d : DitherState} {g : List (Index × ErrorTriple)}
    (h : SpreadsAsGathered c W H px (y * W + x) d g) (hx : x < W) (hy : y < H) :
    SpreadsAsGathered c W H px (y * W + x + 1) (ditherPixel c W H d (x, y)) (gatherPixel c W px g (x, y)) := by
  have hv : d.work.getD (y * W + x) ⟨0, 0, 0⟩ =
      receivedWork c W (g.map Prod.snd) x y (loadWork c (px.getD (y * W + x) ⟨0, 0, 0⟩)) := by
    rw [List.getD_eq_getElem?_getD, h.pending x y hx hy (Nat.le_refl _), Option.getD_some]
  have hlen : (g.map Prod.snd).length = y * W + x := by rw [List.length_map, h.done]
  simp only [ditherPixel, gatherPixel, hv]
  refine ⟨by simp [h.done], by simp [h.out], fun x' y' hx' hy' hn => ?_⟩
  rw [getElem?_diffuseAll c hx hx' hy', List.getElem?_set_ne (by omega), h.pending x' y' hx' hy' (by omega), List.map_append,
    List.map_singleton, receivedWork_append (loadWork_inRange c _) _ _ hx', hlen]
  rfl

/-- A whole frame: the two folds run as one, over pairs. -/
theorem ditherFrame_spreadsAsGathered (c : Config) {W H : Nat} {px : List Rgb} (h : px.length = W * H) :
    SpreadsAsGathered c W H px (W * H) (ditherFrame c W H px) (gatherFrame c W H px) := by
  have hboth := foldl_pixelOrder (motive := fun n dg => SpreadsAsGathered c W H px n dg.1 dg.2)
    (fun dg xy => (ditherPixel c W H dg.1 xy, gatherPixel c W px dg.2 xy)) (_, _) (spreadsAsGathered_load c h)
    fun _ _ _ hx hy hdg => hdg.step hx hy
  rw [List.foldl_hom₂ _ Prod.mk (ditherPixel c W H) (gatherPixel c W px) _ _ _ fun _ _ _ => rfl,
    ← gatherFrame_eq_foldl] at hboth
  exact hboth

end Sys2Proof.Machine
end

section
/-! PROOFS. DITHER, and PACK of a uniform raster, under a legal geometry (spec/41_dither.md R137 to R140, spec/42_nibble.md
R154). -/

namespace Sys2Proof.Machine

/-! ### The end of a frame command, and DITHER and PACK under a legal geometry (R138, R154, R182) -/

theorem State.rasterPixel_settle_complete {s : State} (h : s.disturbed = false) (p : Nat) :
    s.settle.complete.rasterPixel p = s.rasterPixel p :=
  State.rasterPixel_congr fun _ _ => (State.readByte_complete _ _).trans (State.readByte_settle h _)

theorem State.pbufByte_settle_complete {s : State} (h : s.disturbed = false) (k : Nat) :
    s.settle.complete.pbufByte k = s.pbufByte k :=
  (State.readByte_complete _ _).trans (State.readByte_settle h _)

theorem State.readRaster_length (s : State) (n : Nat) : (s.readRaster n).length = n := by
  rw [State.readRaster, List.length_map, List.length_range]

theorem State.mem_readRaster {s : State} {n : Nat} {t : Rgb} : t ∈ s.readRaster n ↔ ∃ p < n, s.rasterPixel p = t := by
  simp only [State.readRaster, List.mem_map, List.mem_range]

/-- The two memories a DITHER writes, RASTER and WORK (R138), before its end. -/
def State.withDither (s : State) (d : DitherState) : State := { s.writeRaster d.out with work := d.work }

theorem State.withDither_disturbed (s : State) (d : DitherState) : (s.withDither d).disturbed = s.disturbed := rfl

theorem State.readByte_withDither (s : State) (d : DitherState) (a : Nat) :
    (s.withDither d).readByte a = (s.writeRaster d.out).readByte a := State.readByte_congr rfl rfl a

theorem State.rasterPixel_withDither (s : State) (d : DitherState) (p : Nat) :
    (s.withDither d).rasterPixel p = (s.writeRaster d.out).rasterPixel p :=
  State.rasterPixel_congr fun _ _ => s.readByte_withDither d _

/-- The state a DITHER of W × H pixels leaves (R138). -/
def State.dithered (s : State) (W H : Nat) : State :=
  (s.withDither (ditherFrame s.cfg W H (s.readRaster (W * H)))).settle.complete

section
variable {s : State} {w : Word} {wl hl : BitVec 16}

theorem exec_dither_of_ok (hp : s.phase = .running w wl hl) (hg : geometryOk s.cfg wl hl = true) :
    exec .dither s = .next (s.dithered wl.toNat hl.toNat) :=
  congrArg Host.Outcome.next (State.framed_ok (State.latchedGeometry_running hp) hg _)

theorem exec_pack_of_ok (hp : s.phase = .running w wl hl) (hg : geometryOk s.cfg wl hl = true) :
    exec .pack s = .next (s.writePbuf (packFrame s.cfg wl.toNat hl.toNat s.rasterPixel)).settle.complete :=
  congrArg Host.Outcome.next (State.framed_ok (State.latchedGeometry_running hp) hg _)

end

theorem State.dithered_completes (s : State) (W H : Nat) : Completes s (s.dithered W H) :=
  completes_complete (CommandKeeps.settled ⟨rfl, rfl, rfl, rfl, rfl, rfl⟩)

theorem State.dithered_keeps_registers (s : State) (W H : Nat) :
    ErrorKept s (s.dithered W H) ∧ ResultsKept s (s.dithered W H) := by
  simp [ErrorKept, ResultsKept, State.dithered, State.withDither]

theorem State.dithered_work (s : State) (W H : Nat) :
    (s.dithered W H).work = (ditherFrame s.cfg W H (s.readRaster (W * H))).work := by
  rw [State.dithered, State.complete_work, State.settle_work, State.withDither]

theorem State.rasterPixel_dithered {s : State} (h : s.disturbed = false) (W H p : Nat) :
    (s.dithered W H).rasterPixel p = (s.writeRaster (ditherFrame s.cfg W H (s.readRaster (W * H))).out).rasterPixel p := by
  rw [State.dithered, State.rasterPixel_settle_complete ((s.withDither_disturbed _).trans h), State.rasterPixel_withDither]

/-- After an undisturbed DITHER, RASTER[p] is the dithered frame's pixel p (R138). -/
theorem State.rasterPixel_dithered_eq_out {s : State} (h : s.disturbed = false) {W H p : Nat} (hp : p < W * H) :
    some ((s.dithered W H).rasterPixel p) = (ditherFrame s.cfg W H (s.readRaster (W * H))).out[p]? := by
  have hout := hp.trans_eq (ditherFrame_out_length s.cfg W H (s.readRaster (W * H))).symm
  rw [State.rasterPixel_dithered h, State.rasterPixel_writeRaster s _ hout, List.getElem?_eq_getElem hout]

/-- R137, of the raster. -/
theorem State.dithered_palette {s : State} (h : s.disturbed = false) {W H p : Nat} (hp : p < W * H) :
    ∃ k, (s.dithered W H).rasterPixel p = paletteColour s.cfg k :=
  ditherFrame_out_palette s.cfg W H _ _ (List.mem_of_getElem? (State.rasterPixel_dithered_eq_out h hp).symm)

theorem State.memoryKeptOutside_dithered (s : State) (W H : Nat) :
    MemoryKeptOutside (rasterTouched (W * H)) s (s.dithered W H) := by
  have hlen := ditherFrame_out_length s.cfg W H (s.readRaster (W * H))
  refine memoryKeptOutside_settle rfl (Nat.le_refl _) fun _ a ha => ?_
  rw [State.readByte_withDither, State.readByte_writeRaster_outside s (by rwa [hlen])]

/-- R140, of the raster. -/
theorem State.dithered_of_palette {s : State} (hdistinct : s.cfg.paletteDistinct = true) (h : s.disturbed = false)
    {W H : Nat} (hpal : ∀ p, p < W * H → ∃ k, s.rasterPixel p = paletteColour s.cfg k) :
    (s.dithered W H).work = (s.readRaster (W * H)).map (loadWork s.cfg) ∧
    ∀ p, (s.dithered W H).rasterPixel p = s.rasterPixel p := by
  have hframe := ditherFrame_of_palette (H := H) (W := W) hdistinct (s.readRaster_length (W * H)) fun t ht => by
    obtain ⟨p, hp, rfl⟩ := State.mem_readRaster.mp ht
    exact hpal p hp
  have hlen := s.readRaster_length (W * H)
  refine ⟨by rw [State.dithered_work, hframe], fun p => ?_⟩
  rw [State.rasterPixel_dithered h, hframe]
  rcases Nat.lt_or_ge p (W * H) with hp | hp
  · rw [State.rasterPixel_writeRaster s _ (hp.trans_eq hlen.symm)]
    simp only [State.readRaster, List.getElem_map, List.getElem_range]
  · exact State.rasterPixel_writeRaster_outside s (hlen.trans_le hp)

/-- A raster uniformly of entry i packs to bytes with i in both nibbles (R115, R154). -/
theorem packFrame_uniform {c : Config} (hdistinct : c.paletteDistinct = true) {W H : Nat} {raster : Nat → Rgb} {i : Index}
    (h : ∀ p, p < W * H → raster p = paletteColour c i) : ∀ x ∈ packFrame c W H raster, x = packByte i i := by
  intro x hx
  simp only [packFrame, byteOrder, List.mem_map, List.mem_flatMap, List.mem_range] at hx
  obtain ⟨_, ⟨y, hy, j, hj, rfl⟩, rfl⟩ := hx
  have hnearest {x : Nat} (hx : x < W) : nearest8 c (raster (y * W + x)) = i := by
    rw [h _ (pixelIndex_lt hx hy), nearest8_paletteColour hdistinct]
  have hfirst : 2 * j < W := by unfold bytesPerRow at hj; omega
  have hsecond : (if 2 * j + 1 < W then nearest8 c (raster (y * W + 2 * j + 1)) else i) = i :=
    ite_eq_right_iff.mpr hnearest
  rw [packedByteAt, hnearest hfirst, hsecond]

/-- PACK of a raster uniformly of entry i (R154). -/
theorem exec_pack_of_uniform {s : State} {w : Word} {wl hl : BitVec 16} (hdistinct : s.cfg.paletteDistinct = true)
    (hp : s.phase = .running w wl hl) (h : s.disturbed = false) (hg : geometryOk s.cfg wl hl = true) {i : Index}
    (huniform : ∀ p, p < wl.toNat * hl.toNat → s.rasterPixel p = paletteColour s.cfg i) :
    ∃ u, exec .pack s = .next u ∧ ∀ k, k < bufferLength wl.toNat hl.toNat → (u.pbufByte k).toNat = 17 * i.toNat := by
  refine ⟨_, exec_pack_of_ok hp hg, fun k hk => ?_⟩
  rw [State.pbufByte_settle_complete ((s.writePbuf_disturbed _).trans h),
    State.pbufByte_writePbuf _ _ (hk.trans_eq (packFrame_length ..).symm),
    packFrame_uniform hdistinct huniform _ (List.getElem_mem _), packByte_toNat]
  omega

/-- An accepted command runs under GEOM, which a completed command left as it was (R180). -/
theorem Completes.accept_phase {s t : State} (h : Completes s t) {wl hl : BitVec 16} (hw : geomWidth s.geom = wl)
    (hh : geomHeight s.geom = hl) (w : Word) : (t.accept w).phase = .running w wl hl := by
  rw [State.accept_phase, h.keeps.geom, hw, hh]

end Sys2Proof.Machine
end

section
/-! PROOFS. The statements of spec/41_dither.md. -/

namespace Sys2Proof.Machine

/-- Settles O40, by the simulation `SpreadsAsGathered` along the pixels in row-major order. -/
theorem ditherGathersSharesInTheStatedOrder : Obligations.DitherGathersSharesInTheStatedOrder :=
  fun c _ _ _ h => (ditherFrame_spreadsAsGathered c h).out

/-- Settles O35: the share is one rounded division of e·w, and the four divisions are off by at most a half each. -/
theorem shareRoundsHalvesAwayFromZero : Obligations.ShareRoundsHalvesAwayFromZero := by
  refine ⟨fun e w _ => ⟨fun he => ?_, share_neg e w⟩, share_zero, fun e => ?_, by decide⟩
  · rw [share, if_pos he]
    omega
  · unfold share
    split <;> omega

/-- Settles O36: no pixel's step changes the length of WORK, and each stores clamped or scaled values alone
(`ditherFrame_work_inRange`). -/
theorem ditherKeepsWorkingValuesInRange : Obligations.DitherKeepsWorkingValuesInRange :=
  fun c W H px h => ⟨(ditherFrame_work_length c W H px).trans h, ditherFrame_work_inRange c W H px⟩

/-- Settles O37, on the state `State.dithered` that DITHER leaves. -/
theorem ditherWritesTheDitheredFrame : Obligations.DitherWritesTheDitheredFrame := by
  intro s w wl hl hp hg
  obtain ⟨herr, hresults⟩ := s.dithered_keeps_registers wl.toNat hl.toNat
  exact ⟨_, exec_dither_of_ok hp hg, fun h _ hlt => State.rasterPixel_dithered_eq_out h hlt, s.dithered_work _ _,
    s.dithered_completes _ _, herr, hresults, s.memoryKeptOutside_dithered _ _⟩

/-- Settles O38: a dither puts out palette colours alone, and each is its own nearest (R115). -/
theorem ditherLeavesAPaletteRaster : Obligations.DitherLeavesAPaletteRaster := by
  intro s w wl hl hdistinct hp h hg
  refine ⟨_, exec_dither_of_ok hp hg, fun p hlt => ?_⟩
  obtain ⟨k, hk⟩ := State.dithered_palette h hlt
  rw [(s.dithered_completes _ _).keeps.cfg, hk]
  exact ⟨k, rfl, nearest8_paletteColour hdistinct k⟩

/-- Settles O39: the zero-error law (`State.dithered_of_palette`) on the given raster, and on the palette raster a first DITHER
leaves, which is what the second command, accepted under the same GEOM, starts from. -/
theorem ditherLeavesAPaletteRasterUnchanged : Obligations.DitherLeavesAPaletteRasterUnchanged := by
  intro s w wl hl hdistinct hp h hg
  have hexec := exec_dither_of_ok hp hg
  have hdone := s.dithered_completes wl.toNat hl.toNat
  have hcfg (w : Word) : ((s.dithered wl.toNat hl.toNat).accept w).cfg = s.cfg := hdone.keeps.cfg
  refine ⟨fun hpal => ⟨_, hexec, State.dithered_of_palette hdistinct h hpal⟩, fun hw hh => ?_, fun hw hh i huniform => ?_⟩
  · have hpal (p : Nat) (hlt : p < wl.toNat * hl.toNat) := State.dithered_palette h hlt
    rw [← hcfg (encode .dither)] at hdistinct hpal hg
    exact ⟨_, _, hexec, exec_dither_of_ok (hdone.accept_phase hw hh _) hg,
      (State.dithered_of_palette (s := .accept ..) hdistinct rfl hpal).2⟩
  · have hkept := (State.dithered_of_palette hdistinct h fun p hlt => ⟨i, huniform p hlt⟩).2
    have hagain (p : Nat) (hlt : p < wl.toNat * hl.toNat) := (hkept p).trans (huniform p hlt)
    rw [← hcfg (encode .pack)] at hdistinct hagain hg
    obtain ⟨u, hu, hbytes⟩ := exec_pack_of_uniform hdistinct (hdone.accept_phase hw hh _) rfl hg hagain
    exact ⟨_, u, hexec, hu, hbytes⟩

end Sys2Proof.Machine
end

section
/-! PROOFS. The terms of spec/42_nibble.md: the order of the encoded buffer (R71), nibbles, packed and unpacked bytes (R150, R154,
R155) and the unpacking of a whole buffer pixel by pixel (R155). -/

namespace Sys2Proof.Machine

/-! ### Row-major orders and the encoded buffer's (R71, R132) -/

/-- Position y · W + x of the pixel order is pixel (x, y). -/
theorem getElem?_pixelOrder {W H x y : Nat} (hx : x < W) (hy : y < H) : (pixelOrder W H)[y * W + x]? = some (x, y) := by
  have hdiv : (y * W + x) / W = y := by
    rw [Nat.mul_comm, Nat.mul_add_div (by omega), Nat.div_eq_of_lt hx, Nat.add_zero]
  rw [pixelOrder_eq_map, List.getElem?_map, List.getElem?_range (pixelIndex_lt hx hy), Option.map_some, hdiv,
    Nat.mul_add_mod_self_right, Nat.mod_eq_of_lt hx]

/-- What stands at position n of the pixel order is the pixel with index n. -/
theorem pixelIndex_of_getElem? {W H n x y : Nat} (h : (pixelOrder W H)[n]? = some (x, y)) : y * W + x = n := by
  rw [pixelOrder_eq_map, List.getElem?_map, Option.map_eq_some_iff] at h
  obtain ⟨m, hm, hxy⟩ := h
  obtain ⟨_, rfl⟩ := List.getElem?_eq_some_iff.mp hm
  rw [List.getElem_range] at hxy
  cases hxy
  exact Nat.div_add_mod' n W

theorem exists_pixel {W H p : Nat} (hp : p < W * H) : ∃ x y, x < W ∧ y < H ∧ y * W + x = p :=
  ⟨p % W, p / W, Nat.mod_lt p (Nat.pos_of_mul_pos_right (by omega : 0 < W * H)), Nat.div_lt_of_lt_mul hp, Nat.div_add_mod' p W⟩

/-- The bytes of a W × H frame are ordered as the pixels of a raster of BPR columns. -/
theorem byteOrder_eq_pixelOrder (W H : Nat) : byteOrder W H = pixelOrder (bytesPerRow W) H := rfl

theorem mem_byteOrder {W H j y : Nat} : (j, y) ∈ byteOrder W H ↔ j < bytesPerRow W ∧ y < H := by
  simp [byteOrder, and_comm]

/-- The first pixel of every byte lies within the row (R71). -/
theorem firstColumn_lt {W j : Nat} (hj : j < bytesPerRow W) : 2 * j < W := by
  unfold bytesPerRow at hj
  omega

/-- Pixel x of a row is held in byte x / 2 of it (R71). -/
theorem half_lt_bytesPerRow {W x : Nat} (hx : x < W) : x / 2 < bytesPerRow W := by
  unfold bytesPerRow
  omega

theorem bufferIndex_lt {W H j y : Nat} (hj : j < bytesPerRow W) (hy : y < H) : y * bytesPerRow W + j < bufferLength W H :=
  (pixelIndex_lt hj hy).trans_eq (Nat.mul_comm _ _)

/-- The columns of the pixels that byte j of a row of W pixels holds (R71, R155). -/
def byteColumns (W j : Nat) : List Nat := List.range' (2 * j) (pixelsInByte W j)

/-- Every column of a row is held once, in order. -/
theorem flatMap_byteColumns (W : Nat) : (List.range (bytesPerRow W)).flatMap (byteColumns W) = List.range W := by
  have hfirst : ∀ n ≤ bytesPerRow W, (List.range n).flatMap (byteColumns W) = List.range (min (2 * n) W) := by
    intro n
    induction n with
    | zero => simp
    | succ n ih =>
      intro hn
      have hlt := firstColumn_lt hn
      have hlast : 2 * n + pixelsInByte W n = min (2 * (n + 1)) W := by
        unfold pixelsInByte
        split <;> omega
      rw [List.range_succ, List.flatMap_append, ih (by omega), List.flatMap_singleton, Nat.min_eq_left (by omega), byteColumns,
        List.range_eq_range', List.range_eq_range', ← hlast]
      simpa using List.range'_append (s := 0) (m := 2 * n) (n := pixelsInByte W n) (step := 1)
  have hall : min (2 * bytesPerRow W) W = W := by unfold bytesPerRow; omega
  rw [hfirst _ (Nat.le_refl _), hall]

/-! ### Nibbles, packed bytes and unpacked ones (R150, R153 to R155) -/

theorem indexOf_toNat (i : Index) : indexOf i.toNat = i := by rw [indexOf, BitVec.ofNat_toNat, BitVec.setWidth_eq]

theorem toNat_indexOf {n : Nat} (h : n < 8) : (indexOf n).toNat = n := by
  rw [indexOf, BitVec.toNat_ofNat]
  exact Nat.mod_eq_of_lt h

theorem nibbleIndex_highNibble {x : Byte} (h : x.toNat / 16 < 8) : nibbleIndex (highNibble x) = some (indexOf (x.toNat / 16)) := by
  rw [← highNibble_toNat] at h ⊢
  rw [nibbleIndex_of_lt h, indexOf, BitVec.ofNat_toNat]

theorem nibbleIndex_lowNibble {x : Byte} (h : x.toNat % 16 < 8) : nibbleIndex (lowNibble x) = some (indexOf (x.toNat % 16)) := by
  rw [← lowNibble_toNat] at h ⊢
  rw [nibbleIndex_of_lt h, indexOf, BitVec.ofNat_toNat]

theorem packByteWord_toNat (a b : Index) : ((packByte a b).setWidth 32).toNat = 16 * a.toNat + b.toNat := by
  rw [BitVec.toNat_setWidth_of_le (by decide), packByte_toNat]

/-- UNPACK1 of a byte with both nibbles 0 to 7 (R153). -/
theorem exec_unpack1_of_good {x : Byte} (hhigh : x.toNat / 16 < 8) (hlow : x.toNat % 16 < 8) (s : State) :
    exec (.unpack1 x) s = .next (s.setResults (paletteWord s.cfg (indexOf (x.toNat / 16)))
      (paletteWord s.cfg (indexOf (x.toNat % 16)))).complete := by
  change execUnpack1 x s = _
  simp only [execUnpack1, nibbleIndex_highNibble hhigh, nibbleIndex_lowNibble hlow]

/-- The nibble of a byte that holds column x: the high one for even columns, the low one for odd ones (R150). -/
def columnNibble (b : Byte) (x : Nat) : Nat := if x % 2 = 0 then b.toNat / 16 else b.toNat % 16

theorem columnNibble_even (b : Byte) (j : Nat) : columnNibble b (2 * j) = b.toNat / 16 := if_pos (by omega)

theorem columnNibble_odd (b : Byte) (j : Nat) : columnNibble b (2 * j + 1) = b.toNat % 16 := if_neg (by omega)

/-- A byte with good used nibbles unpacks to the colours of its columns' nibbles (R155). -/
theorem unpackedPixels_of_good (c : Config) {W j : Nat} {b : Byte} (h : GoodByte W j b) :
    unpackedPixels c W j b = some ((byteColumns W j).map (fun x => paletteColour c (indexOf (columnNibble b x)))) := by
  obtain ⟨hhigh, hlow⟩ := h
  unfold unpackedPixels byteColumns pixelsInByte
  rw [nibbleIndex_highNibble hhigh]
  by_cases hsecond : 2 * j + 1 < W
  · simp [hsecond, nibbleIndex_lowNibble (hlow hsecond), List.range', columnNibble_even, columnNibble_odd]
  · simp [hsecond, columnNibble_even]

/-- A byte with a bad used nibble does not unpack (R155, R204). -/
theorem unpackedPixels_of_bad (c : Config) {W j : Nat} {b : Byte} (h : ¬ GoodByte W j b) : unpackedPixels c W j b = none := by
  unfold unpackedPixels
  by_cases hhigh : b.toNat / 16 < 8
  · have hlow : 2 * j + 1 < W ∧ 8 ≤ b.toNat % 16 := by unfold GoodByte at h; omega
    rw [nibbleIndex_highNibble hhigh, nibbleIndex_of_ge (n := lowNibble b) (by rw [lowNibble_toNat]; exact hlow.2)]
    simp [hlow.1]
  · rw [nibbleIndex_of_ge (n := highNibble b) (by rw [highNibble_toNat]; omega)]

/-- Byte y · BPR + j of the encoded buffer as a number (R154). -/
theorem packedByteAt_toNat (c : Config) (W : Nat) (raster : Nat → Rgb) (j y : Nat) :
    (packedByteAt c W raster (j, y)).toNat = 16 * (nearest8 c (raster (y * W + 2 * j))).toNat +
      (nearest8 c (raster (y * W + if 2 * j + 1 < W then 2 * j + 1 else 2 * j))).toNat := by
  rw [packedByteAt, packByte_toNat]
  split <;> rfl

/-- A packer writes nibbles of 0 to 7 alone (R150). -/
theorem goodByte_packedByteAt (c : Config) (W : Nat) (raster : Nat → Rgb) (j y : Nat) :
    GoodByte W j (packedByteAt c W raster (j, y)) := by
  unfold GoodByte
  rw [packedByteAt_toNat]
  omega

/-- Column x of a packed row is the nearest index of pixel (x, y) (R154). -/
theorem columnNibble_packedByteAt (c : Config) {W x : Nat} (hx : x < W) (raster : Nat → Rgb) (y : Nat) :
    columnNibble (packedByteAt c W raster (x / 2, y)) x = (nearest8 c (raster (y * W + x))).toNat := by
  unfold columnNibble
  rw [packedByteAt_toNat]
  split
  · rw [show 2 * (x / 2) = x by omega]
    omega
  · have hodd : 2 * (x / 2) + 1 = x := by omega
    rw [hodd, if_pos hx]
    omega

theorem getElem?_packFrame (c : Config) {W H j y : Nat} (raster : Nat → Rgb) (hj : j < bytesPerRow W) (hy : y < H) :
    (packFrame c W H raster)[y * bytesPerRow W + j]? = some (packedByteAt c W raster (j, y)) := by
  rw [packFrame, List.getElem?_map, byteOrder_eq_pixelOrder, getElem?_pixelOrder hj hy, Option.map_some]

/-- R156 (e), of the encoded buffer: its bytes are packed from the frame's pixels alone. -/
theorem packedByteAt_congr (c : Config) {W H j y : Nat} {raster raster' : Nat → Rgb} (h : ∀ p, p < W * H → raster p = raster' p)
    (hy : y < H) (hj : j < bytesPerRow W) : packedByteAt c W raster (j, y) = packedByteAt c W raster' (j, y) := by
  have hfirst := firstColumn_lt hj
  have hsecond : (if 2 * j + 1 < W then 2 * j + 1 else 2 * j) < W := by split <;> omega
  apply BitVec.eq_of_toNat_eq
  rw [packedByteAt_toNat, packedByteAt_toNat, h _ (pixelIndex_lt hfirst hy), h _ (pixelIndex_lt hsecond hy)]

/-! ### The loop of UNPACK (R155) -/

section
variable {c : Config} {W H j y k : Nat} {pbuf : Nat → Byte} {rest : List (Nat × Nat)} {px more : List Rgb}

theorem unpackBytes_cons_none (h : unpackedPixels c W j (pbuf (y * bytesPerRow W + j)) = none) :
    unpackBytes c W pbuf ((j, y) :: rest) = .badByte (y * bytesPerRow W + j) := by
  simp only [unpackBytes, h]

theorem unpackBytes_cons_pixels (h : unpackedPixels c W j (pbuf (y * bytesPerRow W + j)) = some px)
    (hrest : unpackBytes c W pbuf rest = .pixels more) : unpackBytes c W pbuf ((j, y) :: rest) = .pixels (px ++ more) := by
  simp only [unpackBytes, h, hrest]

theorem unpackBytes_cons_badByte (h : unpackedPixels c W j (pbuf (y * bytesPerRow W + j)) = some px)
    (hrest : unpackBytes c W pbuf rest = .badByte k) : unpackBytes c W pbuf ((j, y) :: rest) = .badByte k := by
  simp only [unpackBytes, h, hrest]

/-- The byte at a place (j, y) of the order has no bad used nibble. -/
def GoodByteAt (W : Nat) (pbuf : Nat → Byte) (jy : Nat × Nat) : Prop := GoodByte W jy.1 (pbuf (jy.2 * bytesPerRow W + jy.1))

/-- Pixel (x, y) as R155 unpacks it from the buffer's bytes. -/
def unpackedPixelAt (c : Config) (W : Nat) (pbuf : Nat → Byte) (xy : Nat × Nat) : Rgb :=
  paletteColour c (indexOf (columnNibble (pbuf (xy.2 * bytesPerRow W + xy.1 / 2)) xy.1))

/-- The pixels of one byte, in terms of their own places. -/
theorem unpackedPixels_eq_map (h : GoodByteAt W pbuf (j, y)) :
    unpackedPixels c W j (pbuf (y * bytesPerRow W + j)) = some ((byteColumns W j).map (fun x => unpackedPixelAt c W pbuf (x, y))) := by
  refine (unpackedPixels_of_good c h).trans (congrArg some (List.map_congr_left fun x hx => ?_))
  have hhalf : x / 2 = j := by
    have hle : pixelsInByte W j ≤ 2 := by unfold pixelsInByte; split <;> omega
    obtain ⟨hge, hlt⟩ := List.mem_range'_1.mp hx
    dsimp only at hge hlt
    omega
  rw [unpackedPixelAt, hhalf]

/-- The loop over good bytes puts out each byte's pixels in turn. -/
theorem unpackBytes_of_good {order : List (Nat × Nat)} (h : ∀ jy ∈ order, GoodByteAt W pbuf jy) :
    unpackBytes c W pbuf order =
      .pixels (order.flatMap (fun jy => (byteColumns W jy.1).map (fun x => unpackedPixelAt c W pbuf (x, jy.2)))) := by
  induction order with
  | nil => rfl
  | cons jy rest ih =>
    obtain ⟨hfirst, hrest⟩ := List.forall_mem_cons.mp h
    exact unpackBytes_cons_pixels (unpackedPixels_eq_map hfirst) (ih hrest)

/-- The loop stops at the first bad byte, with its index. -/
theorem unpackBytes_of_bad {order : List (Nat × Nat)} {n : Nat} (hn : order[n]? = some (j, y)) (hbad : ¬ GoodByteAt W pbuf (j, y))
    (hgood : ∀ m < n, ∀ jy, order[m]? = some jy → GoodByteAt W pbuf jy) :
    unpackBytes c W pbuf order = .badByte (y * bytesPerRow W + j) := by
  induction order generalizing n with
  | nil => cases hn
  | cons jy rest ih =>
    cases n with
    | zero =>
      cases hn
      exact unpackBytes_cons_none (unpackedPixels_of_bad c hbad)
    | succ n =>
      have hfirst : GoodByteAt W pbuf jy := hgood 0 (Nat.succ_pos n) jy rfl
      exact unpackBytes_cons_badByte (unpackedPixels_eq_map hfirst)
        (ih hn fun m hm jy' hjy' => hgood (m + 1) (Nat.succ_lt_succ hm) jy' hjy')

/-- The loop reads the bytes of its order alone. -/
theorem unpackBytes_congr {pbuf' : Nat → Byte} {order : List (Nat × Nat)}
    (h : ∀ jy ∈ order, pbuf (jy.2 * bytesPerRow W + jy.1) = pbuf' (jy.2 * bytesPerRow W + jy.1)) :
    unpackBytes c W pbuf order = unpackBytes c W pbuf' order := by
  induction order with
  | nil => rfl
  | cons jy rest ih =>
    obtain ⟨hfirst, hrest⟩ := List.forall_mem_cons.mp h
    simp only [unpackBytes, hfirst, ih hrest]

/-! ### The whole frame (R155, R156) -/

/-- No used nibble of the encoded buffer is 8 to 15 (R155). -/
def GoodBuffer (W H : Nat) (pbuf : Nat → Byte) : Prop :=
  ∀ y j, y < H → j < bytesPerRow W → GoodByte W j (pbuf (y * bytesPerRow W + j))

/-- The raster of W × H pixels that R155 unpacks from a good buffer. -/
def unpackedRaster (c : Config) (W H : Nat) (pbuf : Nat → Byte) : List Rgb := (pixelOrder W H).map (unpackedPixelAt c W pbuf)

theorem unpackedRaster_length (c : Config) (W H : Nat) (pbuf : Nat → Byte) : (unpackedRaster c W H pbuf).length = W * H := by
  rw [unpackedRaster, List.length_map, pixelOrder_length]

theorem getElem?_unpackedRaster (c : Config) {x : Nat} (pbuf : Nat → Byte) (hx : x < W) (hy : y < H) :
    (unpackedRaster c W H pbuf)[y * W + x]? = some (unpackedPixelAt c W pbuf (x, y)) := by
  rw [unpackedRaster, List.getElem?_map, getElem?_pixelOrder hx hy, Option.map_some]

theorem unpackFrame_of_good (h : GoodBuffer W H pbuf) : unpackFrame c W H pbuf = .pixels (unpackedRaster c W H pbuf) := by
  have hgood : ∀ jy ∈ byteOrder W H, GoodByteAt W pbuf jy := fun ⟨j, y⟩ hjy => by
    obtain ⟨hj, hy⟩ := mem_byteOrder.mp hjy
    exact h y j hy hj
  refine (unpackBytes_of_good hgood).trans (congrArg Unpacked.pixels ?_)
  simp only [byteOrder, unpackedRaster, pixelOrder, List.flatMap_assoc, List.flatMap_map, List.map_flatMap, List.map_map]
  refine List.flatMap_congr fun y _ => ?_
  rw [← List.map_flatMap, flatMap_byteColumns]
  rfl

/-- UNPACK stops at byte (j, y) where it is bad and no byte of a lower index is. -/
theorem unpackFrame_of_bad (hy : y < H) (hj : j < bytesPerRow W) (hbad : ¬ GoodByte W j (pbuf (y * bytesPerRow W + j)))
    (hgood : ∀ y' j', y' < H → j' < bytesPerRow W → y' * bytesPerRow W + j' < y * bytesPerRow W + j →
      GoodByte W j' (pbuf (y' * bytesPerRow W + j'))) :
    unpackFrame c W H pbuf = .badByte (y * bytesPerRow W + j) := by
  refine unpackBytes_of_bad (getElem?_pixelOrder hj hy) hbad fun m hm ⟨j', y'⟩ hjy => ?_
  obtain ⟨hj', hy'⟩ := mem_byteOrder.mp (List.mem_of_getElem? hjy)
  exact hgood y' j' hy' hj' ((pixelIndex_of_getElem? hjy).trans_lt hm)

/-- R156 (e), of the unpacked frame: it is unpacked from the buffer's L bytes alone. -/
theorem unpackFrame_congr {pbuf' : Nat → Byte} (h : ∀ k, k < bufferLength W H → pbuf k = pbuf' k) :
    unpackFrame c W H pbuf = unpackFrame c W H pbuf' := by
  refine unpackBytes_congr fun ⟨j, y⟩ hjy => ?_
  obtain ⟨hj, hy⟩ := mem_byteOrder.mp hjy
  exact h _ (bufferIndex_lt hj hy)

end

section
variable {c : Config} {W H : Nat} {raster : Nat → Rgb} {pbuf : Nat → Byte}

theorem GoodBuffer.of_packed
    (h : ∀ y j, y < H → j < bytesPerRow W → pbuf (y * bytesPerRow W + j) = packedByteAt c W raster (j, y)) :
    GoodBuffer W H pbuf := fun y j hy hj => by
  rw [h y j hy hj]
  exact goodByte_packedByteAt c W raster j y

/-- R156 (a), pixel by pixel: a packed palette colour unpacks to itself. -/
theorem unpackedPixelAt_of_packed (hdistinct : c.paletteDistinct = true) {x y : Nat} (hx : x < W)
    (hbyte : pbuf (y * bytesPerRow W + x / 2) = packedByteAt c W raster (x / 2, y))
    (hpal : ∃ k, raster (y * W + x) = paletteColour c k) : unpackedPixelAt c W pbuf (x, y) = raster (y * W + x) := by
  obtain ⟨k, hk⟩ := hpal
  rw [unpackedPixelAt, hbyte, columnNibble_packedByteAt c hx, indexOf_toNat, hk, nearest8_paletteColour hdistinct]

/-- R156 (b), byte by byte: an unpacked byte packs to itself, but that its high nibble takes the place of an unused low one. -/
theorem packedByteAt_of_unpacked (hdistinct : c.paletteDistinct = true) {j y : Nat} (hj : j < bytesPerRow W)
    (hgood : GoodByte W j (pbuf (y * bytesPerRow W + j)))
    (hraster : ∀ x, x < W → raster (y * W + x) = unpackedPixelAt c W pbuf (x, y)) :
    (packedByteAt c W raster (j, y)).toNat =
      if 2 * j + 1 < W then (pbuf (y * bytesPerRow W + j)).toNat else 17 * ((pbuf (y * bytesPerRow W + j)).toNat / 16) := by
  obtain ⟨hhigh, hlow⟩ := hgood
  have hfirst : (nearest8 c (raster (y * W + 2 * j))).toNat = (pbuf (y * bytesPerRow W + j)).toNat / 16 := by
    rw [hraster _ (firstColumn_lt hj), unpackedPixelAt, nearest8_paletteColour hdistinct, columnNibble_even,
      Nat.mul_div_cancel_left j (by decide), toNat_indexOf hhigh]
  rw [packedByteAt_toNat, hfirst]
  split
  · rename_i hsecond
    have hhalf : (2 * j + 1) / 2 = j := by omega
    rw [hraster _ hsecond, unpackedPixelAt, nearest8_paletteColour hdistinct, columnNibble_odd, hhalf, toNat_indexOf (hlow hsecond)]
    exact Nat.div_add_mod _ 16
  · rw [hfirst]
    omega

end

end Sys2Proof.Machine
end

section
/-! PROOFS. PACK and UNPACK under a legal geometry (spec/42_nibble.md R154, R155), a frame command under any other (R205), and the
states a frame command starts from where its results are to be compared (R156). -/

namespace Sys2Proof.Machine

/-! ### Raising an error (R209, R210) -/

theorem State.readByte_raise (s : State) (e : ErrCode) (info : Word) (a : Nat) : (s.raise e info).readByte a = s.readByte a :=
  (State.readByte_complete _ a).trans (State.readByte_congr (State.record_mem ..) (State.record_memDraw ..) a)

theorem State.rasterPixel_raise (s : State) (e : ErrCode) (info : Word) (p : Nat) :
    (s.raise e info).rasterPixel p = s.rasterPixel p :=
  State.rasterPixel_congr fun _ _ => s.readByte_raise e info _

/-- With no error held, the raised one is what the record shows (R209). -/
theorem State.raise_record {s : State} (h : s.err = 0#4) (e : ErrCode) (info : Word) :
    (s.raise e info).err = errCode e ∧ (s.raise e info).errinfo = info := by
  simp [State.raise, h]

/-- A raise at the end of a command records into the error record the command started with. -/
theorem errorRecorded_raise {s u : State} (h : ErrorKept s u) (e : ErrCode) (info : Word) :
    ErrorRecorded e info s (u.raise e info) := by
  obtain ⟨herr, hinfo⟩ := h
  unfold ErrorRecorded ErrorKept
  rw [← herr, ← hinfo]
  by_cases hclear : u.err = 0#4
  · rw [if_pos hclear]
    exact State.raise_record hclear e info
  · simp [State.raise, hclear]

/-- Raising an error moves no memory and takes no draw. -/
theorem MemoryKeptOutside.raise {touched : Nat → Prop} {s u : State} (h : MemoryKeptOutside touched s u) (e : ErrCode)
    (info : Word) : MemoryKeptOutside touched s (u.raise e info) := by
  have hdraws : (u.raise e info).draws = u.draws := by simp [State.raise]
  simpa only [MemoryKeptOutside, State.readByte_raise, hdraws] using h

/-! ### The end of PACK and of UNPACK (R154, R155) -/

/-- The state a PACK of W × H pixels leaves. -/
def State.packed (s : State) (W H : Nat) : State := (s.writePbuf (packFrame s.cfg W H s.rasterPixel)).settle.complete

/-- The state an UNPACK to the pixels `px` leaves. -/
def State.unpacked (s : State) (px : List Rgb) : State := (s.writeRaster px).settle.complete

/-- The state an UNPACK of n pixels leaves that stops at byte k. -/
def State.unpackAborted (s : State) (n k : Nat) : State := (s.redrawRaster n).settle.raise .badIndex (BitVec.ofNat 32 k)

section
variable {s : State} {w : Word} {wl hl : BitVec 16}

theorem exec_pack_eq_packed (hp : s.phase = .running w wl hl) (hg : geometryOk s.cfg wl hl = true) :
    exec .pack s = .next (s.packed wl.toNat hl.toNat) := exec_pack_of_ok hp hg

theorem exec_unpack_of_pixels (hp : s.phase = .running w wl hl) (hg : geometryOk s.cfg wl hl = true) {px : List Rgb}
    (hpx : unpackFrame s.cfg wl.toNat hl.toNat s.pbufByte = .pixels px) : exec .unpack s = .next (s.unpacked px) := by
  refine congrArg Host.Outcome.next ((State.framed_ok (State.latchedGeometry_running hp) hg _).trans ?_)
  rw [hpx, State.unpacked]

theorem exec_unpack_of_badByte (hp : s.phase = .running w wl hl) (hg : geometryOk s.cfg wl hl = true) {k : Nat}
    (hk : unpackFrame s.cfg wl.toNat hl.toNat s.pbufByte = .badByte k) :
    exec .unpack s = .next (s.unpackAborted (wl.toNat * hl.toNat) k) := by
  refine congrArg Host.Outcome.next ((State.framed_ok (State.latchedGeometry_running hp) hg _).trans ?_)
  rw [hk, State.unpackAborted]

/-- UNPACK of a buffer without a bad used nibble (R155). -/
theorem exec_unpack_of_good (hp : s.phase = .running w wl hl) (hg : geometryOk s.cfg wl hl = true)
    (hgood : GoodBuffer wl.toNat hl.toNat s.pbufByte) :
    exec .unpack s = .next (s.unpacked (unpackedRaster s.cfg wl.toNat hl.toNat s.pbufByte)) :=
  exec_unpack_of_pixels hp hg (unpackFrame_of_good hgood)

/-- R205: each frame command checks its geometry before anything else. -/
theorem exec_frame_of_bad (hp : s.phase = .running w wl hl) (hg : geometryOk s.cfg wl hl = false) {i : Instr}
    (hi : IsFrameCommand i) : exec i s = .next (s.raise .badGeometry (geometryInfo wl hl)) := by
  rcases hi with rfl | rfl | rfl <;>
    exact congrArg Host.Outcome.next (State.framed_bad (State.latchedGeometry_running hp) hg _)

end

section
variable (s : State) (W H n k : Nat) (px : List Rgb)

theorem State.packed_completes : Completes s (s.packed W H) :=
  completes_complete (CommandKeeps.settled ⟨rfl, rfl, rfl, rfl, rfl, rfl⟩)

theorem State.unpacked_completes : Completes s (s.unpacked px) :=
  completes_complete (CommandKeeps.settled ⟨rfl, rfl, rfl, rfl, rfl, rfl⟩)

theorem State.unpackAborted_completes : Completes s (s.unpackAborted n k) :=
  completes_raise (CommandKeeps.settled (s := s) (u := s.redrawRaster n) ⟨rfl, rfl, rfl, rfl, rfl, rfl⟩) _ _

theorem State.packed_keeps_registers :
    ErrorKept s (s.packed W H) ∧ ResultsKept s (s.packed W H) ∧ (s.packed W H).work = s.work := by
  simp [ErrorKept, ResultsKept, State.packed]

theorem State.unpacked_keeps_registers :
    ErrorKept s (s.unpacked px) ∧ ResultsKept s (s.unpacked px) ∧ (s.unpacked px).work = s.work := by
  simp [ErrorKept, ResultsKept, State.unpacked]

theorem State.unpackAborted_keeps_registers :
    ResultsKept s (s.unpackAborted n k) ∧ (s.unpackAborted n k).work = s.work := by
  simp [ResultsKept, State.unpackAborted, State.raise]

theorem State.unpackAborted_records : ErrorRecorded .badIndex (BitVec.ofNat 32 k) s (s.unpackAborted n k) :=
  errorRecorded_raise (by simp [ErrorKept]) _ _

theorem State.memoryKeptOutside_packed : MemoryKeptOutside (pbufTouched (bufferLength W H)) s (s.packed W H) := by
  refine memoryKeptOutside_settle rfl (Nat.le_refl _) fun _ a ha => ?_
  rw [State.readByte_writePbuf_outside s (by rwa [packFrame_length])]

theorem State.memoryKeptOutside_unpacked : MemoryKeptOutside (rasterTouched px.length) s (s.unpacked px) :=
  memoryKeptOutside_settle rfl (Nat.le_refl _) fun _ _ ha => State.readByte_writeRaster_outside s ha

theorem State.memoryKeptOutside_unpackAborted : MemoryKeptOutside (rasterTouched n) s (s.unpackAborted n k) :=
  (memoryKeptOutside_settle (s := s) (u := s.redrawRaster n) rfl (Nat.le_succ _)
    fun _ _ ha => State.readByte_redrawRaster_outside s ha).raise _ _

end

section
variable {s : State} {W H : Nat}

/-- After an undisturbed PACK, byte y · BPR + j is the encoded buffer's (R154). -/
theorem State.pbufByte_packed (h : s.disturbed = false) {j y : Nat} (hy : y < H) (hj : j < bytesPerRow W) :
    (s.packed W H).pbufByte (y * bytesPerRow W + j) = packedByteAt s.cfg W s.rasterPixel (j, y) := by
  obtain ⟨hlt, hget⟩ := List.getElem?_eq_some_iff.mp (getElem?_packFrame s.cfg s.rasterPixel hj hy)
  rw [State.packed, State.pbufByte_settle_complete ((s.writePbuf_disturbed _).trans h), State.pbufByte_writePbuf _ _ hlt, hget]

/-- After an undisturbed UNPACK, RASTER[p] is its pixel p (R155). -/
theorem State.rasterPixel_unpacked (h : s.disturbed = false) {px : List Rgb} {p : Nat} {t : Rgb} (hp : px[p]? = some t) :
    (s.unpacked px).rasterPixel p = t := by
  obtain ⟨hlt, hget⟩ := List.getElem?_eq_some_iff.mp hp
  rw [State.unpacked, State.rasterPixel_settle_complete ((s.writeRaster_disturbed _).trans h), State.rasterPixel_writeRaster _ _ hlt,
    hget]

theorem State.rasterPixel_unpacked_outside (h : s.disturbed = false) {px : List Rgb} {p : Nat} (hp : px.length ≤ p) :
    (s.unpacked px).rasterPixel p = s.rasterPixel p := by
  rw [State.unpacked, State.rasterPixel_settle_complete ((s.writeRaster_disturbed _).trans h),
    State.rasterPixel_writeRaster_outside _ hp]

/-- After an undisturbed UNPACK of a good buffer, pixel (x, y) is unpacked from its own nibble. -/
theorem State.rasterPixel_unpacked_good (h : s.disturbed = false) {pbuf : Nat → Byte} {x y : Nat} (hx : x < W) (hy : y < H) :
    (s.unpacked (unpackedRaster s.cfg W H pbuf)).rasterPixel (y * W + x) = unpackedPixelAt s.cfg W pbuf (x, y) :=
  State.rasterPixel_unpacked h (getElem?_unpackedRaster s.cfg pbuf hx hy)

theorem State.rasterPixel_unpackAborted (h : s.disturbed = false) {n k p : Nat} (hp : p < n) :
    (s.unpackAborted n k).rasterPixel p = drawnPixel s.draws p := by
  rw [State.unpackAborted, State.rasterPixel_raise,
    State.rasterPixel_congr (s := s.redrawRaster n) fun _ _ => State.readByte_settle ((s.redrawRaster_disturbed n).trans h) _,
    State.rasterPixel_redrawRaster s hp]

end

/-! ### The memory a frame command does not write (R62, R80) -/

section
variable {s : State} {wl hl : BitVec 16}

theorem Config.wf_iff {c : Config} : c.wf = true ↔ c.inRange = true ∧ c.paletteDistinct = true := Bool.and_eq_true_iff

/-- An undisturbed PACK keeps all of RASTER. -/
theorem State.rasterPixel_packed (hwf : s.cfg.wf = true) (h : s.disturbed = false) (hg : geometryOk s.cfg wl hl = true) (p : Nat) :
    (s.packed wl.toNat hl.toNat).rasterPixel p = s.rasterPixel p := by
  obtain ⟨-, hlen⟩ := frame_within_capacity hg
  obtain ⟨hcap, -⟩ := Config.capacity_of_inRange (Config.wf_iff.mp hwf).1
  refine State.rasterPixel_congr fun lane _ => (s.memoryKeptOutside_packed _ _).1 h _ ?_
  rintro ⟨k, hk, heq⟩
  exact pbufAddr_ne_rasterAddr (by omega) heq.symm

/-- An undisturbed UNPACK keeps all of PBUF. -/
theorem State.pbufByte_unpacked (hwf : s.cfg.wf = true) (h : s.disturbed = false) (px : List Rgb) {k : Nat}
    (hk : k < s.cfg.pbufBytes) : (s.unpacked px).pbufByte k = s.pbufByte k := by
  obtain ⟨hcap, -⟩ := Config.capacity_of_inRange (Config.wf_iff.mp hwf).1
  refine (s.memoryKeptOutside_unpacked px).1 h _ ?_
  rintro ⟨p, lane, -, -, heq⟩
  exact pbufAddr_ne_rasterAddr (by omega) heq

/-- An undisturbed PACK keeps PBUF past the encoded buffer. -/
theorem State.pbufByte_packed_outside {W H : Nat} (h : s.disturbed = false) {k : Nat} (hk : bufferLength W H ≤ k) :
    (s.packed W H).pbufByte k = s.pbufByte k := by
  refine (s.memoryKeptOutside_packed W H).1 h _ ?_
  rintro ⟨k', hk', heq⟩
  have := pbufAddr_inj heq
  omega

end

/-! ### Equal frames give equal results (R156 (e)) -/

/-- A running frame command with no error held and no host write to memory since it was accepted. -/
structure FrameStart (s : State) (wl hl : BitVec 16) : Prop where
  running : ∃ w, s.phase = .running w wl hl
  undisturbed : s.disturbed = false
  err : s.err = 0#4
  errinfo : s.errinfo = 0#32

section
variable {s s' t t' : State} {wl hl : BitVec 16}

/-- Under an illegal geometry the frame commands only raise BAD_GEOMETRY (R205). -/
theorem FrameStart.exec_bad (h : FrameStart s wl hl) (hg : geometryOk s.cfg wl hl = false) {i : Instr} (hi : IsFrameCommand i)
    (ht : exec i s = .next t) :
    t.err = 4#4 ∧ t.errinfo = geometryInfo wl hl ∧ ∀ p, t.rasterPixel p = s.rasterPixel p := by
  obtain ⟨w, hp⟩ := h.running
  cases ht.symm.trans (exec_frame_of_bad hp hg hi)
  obtain ⟨herr, hinfo⟩ := State.raise_record h.err .badGeometry (geometryInfo wl hl)
  exact ⟨herr, hinfo, s.rasterPixel_raise _ _⟩

theorem FrameStart.unpackAborted_record (h : FrameStart s wl hl) (n k : Nat) :
    (s.unpackAborted n k).err = 3#4 ∧ (s.unpackAborted n k).errinfo = BitVec.ofNat 32 k :=
  State.raise_record (s := (s.redrawRaster n).settle) (by simp [h.err]) .badIndex _

theorem FrameStart.dither_same (h : FrameStart s wl hl) (h' : FrameStart s' wl hl) (hcfg : s.cfg = s'.cfg)
    (hraster : ∀ p, p < wl.toNat * hl.toNat → s.rasterPixel p = s'.rasterPixel p)
    (ht : exec .dither s = .next t) (ht' : exec .dither s' = .next t') :
    t.err = t'.err ∧ ∀ p, p < wl.toNat * hl.toNat → t.rasterPixel p = t'.rasterPixel p := by
  cases hg : geometryOk s.cfg wl hl with
  | false =>
    obtain ⟨herr, -, hkept⟩ := h.exec_bad hg (.inl rfl) ht
    obtain ⟨herr', -, hkept'⟩ := h'.exec_bad (hcfg ▸ hg) (.inl rfl) ht'
    exact ⟨herr.trans herr'.symm, fun p hp => by rw [hkept, hkept', hraster p hp]⟩
  | true =>
    obtain ⟨w, hp⟩ := h.running
    obtain ⟨w', hp'⟩ := h'.running
    cases ht.symm.trans (exec_dither_of_ok hp hg)
    cases ht'.symm.trans (exec_dither_of_ok hp' (hcfg ▸ hg))
    have hread : s.readRaster (wl.toNat * hl.toNat) = s'.readRaster (wl.toNat * hl.toNat) :=
      List.map_congr_left fun p hp => hraster p (List.mem_range.mp hp)
    have herr := (s.dithered_keeps_registers wl.toNat hl.toNat).1.1.trans h.err
    have herr' := (s'.dithered_keeps_registers wl.toNat hl.toNat).1.1.trans h'.err
    refine ⟨herr.trans herr'.symm, fun p hp => Option.some.inj ?_⟩
    rw [State.rasterPixel_dithered_eq_out h.undisturbed hp, State.rasterPixel_dithered_eq_out h'.undisturbed hp, hcfg, hread]

theorem FrameStart.pack_same (h : FrameStart s wl hl) (h' : FrameStart s' wl hl) (hcfg : s.cfg = s'.cfg)
    (hraster : ∀ p, p < wl.toNat * hl.toNat → s.rasterPixel p = s'.rasterPixel p)
    (ht : exec .pack s = .next t) (ht' : exec .pack s' = .next t') :
    t.err = t'.err ∧ (t.err = 0#4 → ∀ k, k < bufferLength wl.toNat hl.toNat → t.pbufByte k = t'.pbufByte k) := by
  cases hg : geometryOk s.cfg wl hl with
  | false =>
    obtain ⟨herr, -⟩ := h.exec_bad hg (.inr (.inl rfl)) ht
    obtain ⟨herr', -⟩ := h'.exec_bad (hcfg ▸ hg) (.inr (.inl rfl)) ht'
    exact ⟨herr.trans herr'.symm, fun hzero => absurd (herr.symm.trans hzero) (by decide)⟩
  | true =>
    obtain ⟨w, hp⟩ := h.running
    obtain ⟨w', hp'⟩ := h'.running
    cases ht.symm.trans (exec_pack_eq_packed hp hg)
    cases ht'.symm.trans (exec_pack_eq_packed hp' (hcfg ▸ hg))
    have herr := (s.packed_keeps_registers wl.toNat hl.toNat).1.1.trans h.err
    have herr' := (s'.packed_keeps_registers wl.toNat hl.toNat).1.1.trans h'.err
    refine ⟨herr.trans herr'.symm, fun _ k hk => ?_⟩
    obtain ⟨j, y, hj, hy, rfl⟩ := exists_pixel (hk.trans_eq (Nat.mul_comm _ _))
    rw [State.pbufByte_packed h.undisturbed hy hj, State.pbufByte_packed h'.undisturbed hy hj, hcfg,
      packedByteAt_congr s'.cfg hraster hy hj]

theorem FrameStart.unpack_same (h : FrameStart s wl hl) (h' : FrameStart s' wl hl) (hcfg : s.cfg = s'.cfg)
    (hpbuf : ∀ k, k < bufferLength wl.toNat hl.toNat → s.pbufByte k = s'.pbufByte k)
    (ht : exec .unpack s = .next t) (ht' : exec .unpack s' = .next t') :
    t.err = t'.err ∧ t.errinfo = t'.errinfo ∧
    (t.err = 0#4 → ∀ p, p < wl.toNat * hl.toNat → t.rasterPixel p = t'.rasterPixel p) := by
  cases hg : geometryOk s.cfg wl hl with
  | false =>
    obtain ⟨herr, hinfo, -⟩ := h.exec_bad hg (.inr (.inr rfl)) ht
    obtain ⟨herr', hinfo', -⟩ := h'.exec_bad (hcfg ▸ hg) (.inr (.inr rfl)) ht'
    exact ⟨herr.trans herr'.symm, hinfo.trans hinfo'.symm, fun hzero => absurd (herr.symm.trans hzero) (by decide)⟩
  | true =>
    obtain ⟨w, hp⟩ := h.running
    obtain ⟨w', hp'⟩ := h'.running
    have hframe := unpackFrame_congr (c := s.cfg) hpbuf
    cases hres : unpackFrame s.cfg wl.toNat hl.toNat s.pbufByte with
    | badByte k =>
      cases ht.symm.trans (exec_unpack_of_badByte hp hg hres)
      cases ht'.symm.trans (exec_unpack_of_badByte hp' (hcfg ▸ hg) (hcfg ▸ hframe.symm.trans hres))
      obtain ⟨herr, hinfo⟩ := h.unpackAborted_record (wl.toNat * hl.toNat) k
      obtain ⟨herr', hinfo'⟩ := h'.unpackAborted_record (wl.toNat * hl.toNat) k
      exact ⟨herr.trans herr'.symm, hinfo.trans hinfo'.symm, fun hzero => absurd (herr.symm.trans hzero) (by decide)⟩
    | pixels px =>
      cases ht.symm.trans (exec_unpack_of_pixels hp hg hres)
      cases ht'.symm.trans (exec_unpack_of_pixels hp' (hcfg ▸ hg) (hcfg ▸ hframe.symm.trans hres))
      obtain ⟨⟨herr, hinfo⟩, -⟩ := s.unpacked_keeps_registers px
      obtain ⟨⟨herr', hinfo'⟩, -⟩ := s'.unpacked_keeps_registers px
      refine ⟨by rw [herr, herr', h.err, h'.err], by rw [hinfo, hinfo', h.errinfo, h'.errinfo], fun _ p hlt => ?_⟩
      have hget := List.getElem?_eq_getElem (hlt.trans_eq (unpackFrame_length hres).symm)
      rw [State.rasterPixel_unpacked h.undisturbed hget, State.rasterPixel_unpacked h'.undisturbed hget]

end

end Sys2Proof.Machine
end

section
/-! PROOFS. The statements of spec/42_nibble.md. -/

namespace Sys2Proof.Machine

/-- Settles O25. -/
theorem pack2WritesThePackedByte : Obligations.Pack2WritesThePackedByte :=
  fun a b s => ⟨_, rfl, packByteWord_toNat a b, rfl, setResults_complete_frame s _ _⟩

/-- Settles O26: PACK2.DUP a is PACK2 a, a (O25), and 16 · a + a is 17 · a. -/
theorem pack2DupDuplicatesTheIndex : Obligations.Pack2DupDuplicatesTheIndex := by
  intro a s
  obtain ⟨t, hexec, hbyte, hrest⟩ := pack2WritesThePackedByte a a s
  exact ⟨rfl, t, hexec, by rw [hbyte, ← Nat.succ_mul], hrest⟩

/-- Settles O27. -/
theorem unpack1WritesBothColours : Obligations.Unpack1WritesBothColours :=
  fun _ s hhigh hlow => ⟨_, exec_unpack1_of_good hhigh hlow s, rgbWord_isColourWord _, rgbWord_isColourWord _,
    setResults_complete_frame s _ _⟩

/-- Settles O29, on the state `State.packed` that PACK leaves. -/
theorem packWritesTheEncodedBuffer : Obligations.PackWritesTheEncodedBuffer := by
  intro s w wl hl hp hg
  obtain ⟨herr, hresults, hwork⟩ := s.packed_keeps_registers wl.toNat hl.toNat
  refine ⟨_, exec_pack_eq_packed hp hg, fun h y j hy hj => ?_, s.packed_completes _ _, herr, hresults, hwork,
    s.memoryKeptOutside_packed _ _⟩
  rw [State.pbufByte_packed h hy hj, packedByteAt_toNat]

/-- Settles O30, on the state `State.unpacked` that UNPACK of a good buffer leaves. -/
theorem unpackWritesTheRaster : Obligations.UnpackWritesTheRaster := by
  intro s w wl hl hp hg hgood
  have hmem := s.memoryKeptOutside_unpacked (unpackedRaster s.cfg wl.toNat hl.toNat s.pbufByte)
  rw [unpackedRaster_length] at hmem
  obtain ⟨herr, hresults, hwork⟩ := s.unpacked_keeps_registers (unpackedRaster s.cfg wl.toNat hl.toNat s.pbufByte)
  exact ⟨_, exec_unpack_of_good hp hg hgood, fun h _ _ hx hy => State.rasterPixel_unpacked_good h hx hy, s.unpacked_completes _,
    herr, hresults, hwork, hmem⟩

/-- Settles O31, on the state `State.unpackAborted` that UNPACK leaves where it stops at a bad byte (`unpackFrame_of_bad`). -/
theorem unpackAbortsAtTheFirstBadByte : Obligations.UnpackAbortsAtTheFirstBadByte := by
  intro s w wl hl y j hp hg hy hj hbad hgood
  obtain ⟨hresults, hwork⟩ := s.unpackAborted_keeps_registers (wl.toNat * hl.toNat) (y * bytesPerRow wl.toNat + j)
  exact ⟨_, exec_unpack_of_badByte hp hg (unpackFrame_of_bad hy hj hbad hgood), s.unpackAborted_records _ _,
    fun h p hlt => State.rasterPixel_unpackAborted h hlt, s.unpackAborted_completes _ _, hresults, hwork,
    s.memoryKeptOutside_unpackAborted _ _⟩

/-- Settles O33: the packed buffer is good, and each of its nibbles unpacks to the palette colour that was packed (R115). -/
theorem unpackAfterPackRestoresTheRaster : Obligations.UnpackAfterPackRestoresTheRaster := by
  intro s t u w wl hl hwf hp h hg hw hh hpal ht hu
  cases ht.symm.trans (exec_pack_eq_packed hp hg)
  have hdone := s.packed_completes wl.toNat hl.toNat
  have hbytes (y j : Nat) (hy : y < hl.toNat) (hj : j < bytesPerRow wl.toNat) :
      (s.packed wl.toNat hl.toNat).pbufByte (y * bytesPerRow wl.toNat + j) = packedByteAt s.cfg wl.toNat s.rasterPixel (j, y) :=
    State.pbufByte_packed h hy hj
  have hcfg : ((s.packed wl.toNat hl.toNat).accept (encode .unpack)).cfg = s.cfg := hdone.keeps.cfg
  cases hu.symm.trans
    (exec_unpack_of_good (hdone.accept_phase hw hh _) (by rwa [hcfg]) (GoodBuffer.of_packed hbytes))
  refine ⟨(State.unpacked_keeps_registers _ _).1.1, fun p => ?_⟩
  rcases Nat.lt_or_ge p (wl.toNat * hl.toNat) with hlt | hge
  · obtain ⟨x, y, hx, hy, rfl⟩ := exists_pixel hlt
    rw [State.rasterPixel_unpacked_good rfl hx hy, hcfg]
    exact unpackedPixelAt_of_packed (Config.wf_iff.mp hwf).2 hx (hbytes y _ hy (half_lt_bytesPerRow hx)) (hpal _ hlt)
  · rw [State.rasterPixel_unpacked_outside rfl (by rwa [unpackedRaster_length])]
    exact State.rasterPixel_packed hwf h hg p

/-- Settles O34: each unpacked colour is its own nearest (R115), so a byte packs back to its used nibbles. -/
theorem packAfterUnpackRestoresTheBuffer : Obligations.PackAfterUnpackRestoresTheBuffer := by
  intro s t u w wl hl hwf hp h hg hw hh hgood ht hu
  cases ht.symm.trans (exec_unpack_of_good hp hg hgood)
  have hdone := s.unpacked_completes (unpackedRaster s.cfg wl.toNat hl.toNat s.pbufByte)
  cases hu.symm.trans (exec_pack_eq_packed (hdone.accept_phase hw hh _) (by rwa [State.accept_cfg, hdone.keeps.cfg]))
  refine ⟨fun y j hy hj => ?_, fun k hge hlt => ?_⟩
  · rw [State.pbufByte_packed rfl hy hj, State.accept_cfg, hdone.keeps.cfg]
    exact packedByteAt_of_unpacked (Config.wf_iff.mp hwf).2 hj (hgood y j hy hj) fun x hx => State.rasterPixel_unpacked_good h hx hy
  · rw [State.pbufByte_packed_outside rfl hge]
    exact State.pbufByte_unpacked hwf h _ hlt

/-- Settles O41, command by command: each reads no more of the state than its frame. -/
theorem frameResultsDependOnMemoryAndGeometryAlone : Obligations.FrameResultsDependOnMemoryAndGeometryAlone := by
  intro s s' t t' w w' wl hl hinv hinv' hcfg hp hp' h h' herr herr'
  have hstart : FrameStart s wl hl := ⟨⟨w, hp⟩, h, herr, hinv.err_none herr⟩
  have hstart' : FrameStart s' wl hl := ⟨⟨w', hp'⟩, h', herr', hinv'.err_none herr'⟩
  exact ⟨hstart.dither_same hstart' hcfg, hstart.pack_same hstart' hcfg, hstart.unpack_same hstart' hcfg⟩

end Sys2Proof.Machine
end

section
/-! PROOFS. The engine and the CMD register (spec/43_control.md R180 to R190): what an engine step does while IDLE and while RUNNING,
what a CMD write does, and that no turn but a reset or the completing step takes a running command away. -/

namespace Sys2Proof.Machine

variable {s t : State} {w : Word}

/-! ### Engine steps (R182, R185) -/

/-- The engine takes no step while IDLE (R185). -/
theorem State.engineStep_idle (h : s.phase = .idle) : s.engineStep = .next s := by
  unfold State.engineStep; rw [h]

theorem State.engineWork_idle (h : s.phase = .idle) : s.engineWork = s := by
  unfold State.engineWork; rw [h]

/-- A running word that decodes to a command is that command's meaning (R182). -/
theorem State.engineStep_of_command {wl hl : BitVec 16} {i : Instr} (hp : s.phase = .running w wl hl)
    (hd : decode w = .command i) : s.engineStep = exec i s := by
  unfold State.engineStep; simp only [hp, hd]

/-- While BUSY = 1 the engine's completing step completes the command (R183, R210). -/
theorem engineStep_completes (hbusy : s.busy = true) : ∃ t, s.engineStep = .next t ∧ Completes s t := by
  rcases engineStep_idle_or_completes s with e | ⟨-, h⟩
  · obtain ⟨t, ht, hidle, -⟩ := engineStep_leaves_idle s
    cases e.symm.trans ht
    exact nomatch hbusy.symm.trans hidle
  · exact h

/-! ### The CMD register (R180, R181) -/

theorem State.writeCmd_idle (h : s.busy = false) (w : Word) : s.writeCmd w = s.accept w := by
  unfold State.writeCmd; rw [h]; rfl

theorem State.writeCmd_busy (h : s.busy = true) (w : Word) : s.writeCmd w = s.record .cmdWhileBusy w := by
  unfold State.writeCmd; rw [h]; rfl

/-! ### A running command goes on (R186, R190) -/

/-- What a turn leaves that neither completes nor resets: the configuration, the running command and the turns to come. -/
structure RunsOn (s t : State) : Prop where
  cfg : t.cfg = s.cfg
  phase : t.phase = s.phase
  turns : t.turns = s.turns

theorem runsOn_engineWork (s : State) : RunsOn s s.engineWork :=
  ⟨State.engineWork_cfg s, State.engineWork_phase s, State.engineWork_turns s⟩

/-- Of the registers only CTRL, by its SRST bit, takes a running command away (R22, R23, R26, R181, R247). -/
theorem runsOn_writeReg (hbusy : s.busy = true) {r : Reg} (h : r = .ctrl → w.getLsbD 1 = false) : RunsOn s (s.writeReg r w) := by
  cases r with
  | ctrl => rw [State.writeReg, State.writeCtrl_of_noReset s (h rfl)]; exact ⟨rfl, rfl, rfl⟩
  | status => rw [State.writeReg, State.writeStatus_eq]; exact ⟨rfl, rfl, rfl⟩
  | cmd =>
    rw [State.writeReg, State.writeCmd_busy hbusy]
    exact ⟨State.record_cfg .., State.record_phase .., State.record_turns ..⟩
  | geom => rw [State.writeReg, State.writeGeom_eq]; exact ⟨rfl, rfl, rfl⟩
  | caps | result0 | result1 | errinfo | pal => exact ⟨rfl, rfl, rfl⟩

theorem runsOn_hostRead (s : State) (off : Offset) : RunsOn s (s.hostRead off) := by
  rcases State.hostRead_cases s off with e | ⟨v, e⟩ | ⟨-, -, -, e⟩ <;> rw [e] <;> exact ⟨rfl, rfl, rfl⟩

/-- CTRL stands at offset 0x004 alone (R20). -/
theorem offset_of_regAt_ctrl {off : Offset} (hlt : off.toNat < 0x40) (hal : off.toNat % 4 = 0)
    (h : regAt (off.toNat / 4) = .ctrl) : off = 0x004#23 := by
  have hword : ∀ n < 16, regAt n = .ctrl → n = 1 := by decide
  have hone := hword (off.toNat / 4) (by omega) h
  exact BitVec.eq_of_toNat_eq (by simp only [BitVec.toNat_ofNat]; omega)

theorem runsOn_hostWrite (hbusy : s.busy = true) {off : Offset} {strb : BitVec 4}
    (h : ¬ IsResetTurn (.host (.write off w strb))) : RunsOn s (s.hostWrite off w strb) := by
  rcases State.hostWrite_cases s off w strb with e | e | ⟨hlt, hal, hstrb, e⟩ | ⟨hidle, -⟩ | ⟨-, e⟩
  · rw [e]; exact ⟨rfl, rfl, rfl⟩
  · rw [e]; exact ⟨rfl, rfl, rfl⟩
  · have hreg : RunsOn s (s.writeReg (regAt (off.toNat / 4)) w) := runsOn_writeReg hbusy fun hctrl =>
      Bool.eq_false_of_not_eq_true fun hsrst => h ⟨offset_of_regAt_ctrl hlt hal hctrl, hstrb, hsrst⟩
    rw [e]; exact ⟨hreg.cfg, hreg.phase, hreg.turns⟩
  · exact nomatch hbusy.symm.trans hidle
  · rw [e]; exact ⟨rfl, rfl, rfl⟩

/-- A turn other than a reset lets a running command go on, or completes it. -/
theorem takeTurn_runsOn_or_completes (hbusy : s.busy = true) {turn : Turn} (h : ¬ IsResetTurn turn) :
    ∃ t, s.takeTurn turn = .next t ∧ (RunsOn s t ∨ Completes s t) := by
  cases turn with
  | host tx =>
    cases tx with
    | read off => exact ⟨_, rfl, .inl (runsOn_hostRead s off)⟩
    | write off w strb => exact ⟨_, rfl, .inl (runsOn_hostWrite hbusy h)⟩
  | hardReset => exact absurd trivial h
  | engineWork => exact ⟨_, rfl, .inl (runsOn_engineWork s)⟩
  | engineComplete =>
    obtain ⟨t, ht, hc⟩ := engineStep_completes hbusy
    exact ⟨t, ht, .inr hc⟩

/-- A run of one step is that step. -/
theorem core_run_one (h : step s = .next t) : Sys2Proof.core.run 1 s = .next t := core_run_succ h 0

/-- Through a list of turns without a reset a running command completes, by its last turn or at the step after it (R190). -/
theorem exists_run_completes {turns : List Turn} (hwf : s.cfg.wf = true) (hbusy : s.busy = true) (hturns : s.turns = turns)
    (hreset : ∀ turn ∈ turns, ¬ IsResetTurn turn) :
    ∃ m t, m ≤ turns.length + 1 ∧ Sys2Proof.core.run m s = .next t ∧ t.busy = false ∧ t.done = true := by
  induction turns generalizing s with
  | nil =>
    obtain ⟨t, ht, hc⟩ := engineStep_completes hbusy
    have hstep : step s = .next t := by rw [step_eq_turnStep hwf, State.turnStep_nil hturns, ht]
    exact ⟨1, t, Nat.le_refl 1, core_run_one hstep, hc.busy, hc.done⟩
  | cons turn rest ih =>
    obtain ⟨hturn, hrest⟩ := List.forall_mem_cons.mp hreset
    obtain ⟨u, hu, hcases⟩ := takeTurn_runsOn_or_completes (s := { s with turns := rest }) hbusy hturn
    have hstep : step s = .next u := by rw [step_eq_turnStep hwf, State.turnStep_cons hturns, hu]
    rcases hcases with hon | hc
    · have hbusy' : u.busy = true := (State.busy_of_phase hon.phase).trans hbusy
      obtain ⟨m, t, hm, hrun, hdone⟩ := ih (hon.cfg ▸ hwf) hbusy' hon.turns hrest
      exact ⟨m + 1, t, Nat.succ_le_succ hm, (core_run_succ hstep m).trans hrun, hdone⟩
    · exact ⟨1, u, by simp, core_run_one hstep, hc.busy, hc.done⟩

end Sys2Proof.Machine
end

section
/-! PROOFS. The statements of spec/43_control.md. -/

namespace Sys2Proof.Machine

/-- Settles O7: the due step is the engine's completing step (`turnStep_of_engineDue`), which runs the decoded command. -/
theorem stepRunsTheDecodedCommand : Obligations.StepRunsTheDecodedCommand := by
  intro s w wl hl i rest hwf hp hd hdue
  rw [step_eq_turnStep hwf, turnStep_of_engineDue hdue]
  exact State.engineStep_of_command hp hd

/-- Settles O10: neither kind of engine step moves an idle block. -/
theorem idleEngineTakesNoStep : Obligations.IdleEngineTakesNoStep := by
  intro s rest hwf hidle h
  rw [step_eq_turnStep hwf]
  rcases h with hdue | hwork
  · rw [turnStep_of_engineDue hdue]
    exact State.engineStep_idle hidle
  · rw [State.turnStep_cons hwork]
    exact congrArg Host.Outcome.next (State.engineWork_idle hidle)

/-- Settles O17: `exists_run_completes`, by induction on the turns. -/
theorem runningCommandCompletes : Obligations.RunningCommandCompletes :=
  fun _ hwf hbusy hreset => exists_run_completes hwf hbusy rfl hreset

/-- Settles O28: NOP is the completion alone. -/
theorem nopOnlyCompletes : Obligations.NopOnlyCompletes :=
  fun s => ⟨s.complete, rfl, completes_complete (CommandKeeps.refl s), ⟨rfl, rfl⟩, ⟨rfl, rfl⟩, memoryKept_complete rfl rfl, rfl⟩

/-- Settles O44: the write reaches CMD, which accepts the word. -/
theorem idleCmdWriteIsAccepted : Obligations.IdleCmdWriteIsAccepted := by
  intro s w hidle
  have hwrite : s.hostAccess (.write 0x00C w 0b1111) = (s.accept w).answerWrite := by
    rw [s.hostAccess_write_register (r := .cmd) rfl, State.writeReg, State.writeCmd_idle hidle]
  rw [hwrite]
  exact ⟨rfl, rfl⟩

/-- Settles O45: the write reaches CMD, which records the error where none is held (R209). -/
theorem busyCmdWriteIsRejected : Obligations.BusyCmdWriteIsRejected := by
  intro s w hbusy
  rw [s.hostAccess_write_register (r := .cmd) rfl, State.writeReg, State.writeCmd_busy hbusy, State.record]
  split <;> rfl

end Sys2Proof.Machine
end

section
/-! PROOFS. Errors (spec/60_exceptions.md): a running word that is no command (R202, R203), the information of BAD_GEOMETRY (R205),
and which transactions get BUS_ERROR (R207). -/

namespace Sys2Proof.Machine

/-! ### Words that are no command (R202, R203) -/

/-- A running word that decodes to an error raises it (R182). -/
theorem State.engineStep_of_error {s : State} {w : Word} {wl hl : BitVec 16} {e : DecodeError} (hp : s.phase = .running w wl hl)
    (hd : decode w = .error e) : s.engineStep = .next (s.raise (decodeErrCode e) w) := by
  unfold State.engineStep; simp only [hp, hd]

theorem step_aborts_of_error {s : State} {w : Word} {wl hl : BitVec 16} {rest : List Turn} {e : DecodeError}
    (hwf : s.cfg.wf = true) (hp : s.phase = .running w wl hl) (hdue : EngineDue s rest) (hd : decode w = .error e) :
    ∃ t, step s = .next t ∧ AbortsUntouched (decodeErrCode e) w { s with turns := rest } t := by
  rw [step_eq_turnStep hwf, turnStep_of_engineDue hdue]
  exact ⟨_, State.engineStep_of_error hp hd, abortsUntouched_raise _ _ _⟩

/-! ### The information of BAD_GEOMETRY (R205) -/

theorem geometryInfo_toNat (wl hl : BitVec 16) : (geometryInfo wl hl).toNat = hl.toNat * 65536 + wl.toNat := by
  rw [geometryInfo, BitVec.toNat_append, ← Nat.shiftLeft_add_eq_or_of_lt wl.isLt, Nat.shiftLeft_eq]

/-! ### The error record (R209) -/

/-- With an error held nothing is recorded (R209, R212). -/
theorem ErrorRecorded.kept {e : ErrCode} {info : Word} {s t : State} (h : ErrorRecorded e info s t) (herr : s.err ≠ 0#4) :
    ErrorKept s t := by
  rwa [ErrorRecorded, if_neg herr] at h

/-! ### BUS_ERROR (R63, R64, R66 to R68, R207)

Each transaction gets BUS_ERROR and is without effect, or gets OK; which of the two follows its offset's region. At an aligned
offset the capacity of a window is missed by the word exactly where it is missed by the offset. -/

/-- A read within capacity answers OK, whether its value is stored or free (R246). -/
theorem State.windowRead_answer (s : State) (v : Word) : ∃ v', (s.windowRead v).answer = some (.read v' .ok) := by
  cases hbusy : s.busy
  · rw [State.windowRead_idle hbusy]; exact ⟨_, rfl⟩
  · rw [State.windowRead_busy hbusy]; exact ⟨_, rfl⟩

theorem State.windowWrite_answer (s : State) (cells : List Host.Cell) : (s.windowWrite cells).answer = some (.write .ok) := by
  cases hbusy : s.busy
  · rw [State.windowWrite_idle hbusy]; rfl
  · rw [State.windowWrite_busy hbusy]; rfl

theorem State.hostRead_busError_or_ok (s : State) (off : Offset) :
    (GetsBusError s.cfg (.read off) ∧ s.hostRead off = s.readError) ∨
    (¬ GetsBusError s.cfg (.read off) ∧ ∃ v, (s.hostRead off).answer = some (.read v .ok)) := by
  simp only [GetsBusError]
  unfold State.hostRead
  by_cases hal : off.toNat % 4 = 0
  · rw [misaligned_eq_false hal, if_neg Bool.false_ne_true]
    rcases regionOf_cases off with ⟨hhi, h⟩ | ⟨hlo, hhi, h⟩ | ⟨hlo, hhi, h⟩ | ⟨hlo, hhi, h⟩ | ⟨hlo, h⟩ <;> rw [h] <;> dsimp only
    · exact .inr ⟨by omega, _, rfl⟩
    · exact .inr ⟨by omega, _, rfl⟩
    · split
      · exact .inl ⟨by omega, rfl⟩
      · exact .inr ⟨by omega, s.windowRead_answer _⟩
    · split
      · exact .inl ⟨by omega, rfl⟩
      · exact .inr ⟨by omega, s.windowRead_answer _⟩
    · exact .inl ⟨by omega, rfl⟩
  · exact .inl ⟨.inl hal, if_pos ((misaligned_iff off).mpr hal)⟩

theorem State.hostWrite_busError_or_ok (s : State) (off : Offset) (w : Word) (strb : BitVec 4) :
    (GetsBusError s.cfg (.write off w strb) ∧ s.hostWrite off w strb = s.writeError) ∨
    (¬ GetsBusError s.cfg (.write off w strb) ∧ (s.hostWrite off w strb).answer = some (.write .ok)) := by
  simp only [GetsBusError]
  unfold State.hostWrite
  by_cases hal : off.toNat % 4 = 0
  · rw [misaligned_eq_false hal, if_neg Bool.false_ne_true]
    rcases regionOf_cases off with ⟨hhi, h⟩ | ⟨hlo, hhi, h⟩ | ⟨hlo, hhi, h⟩ | ⟨hlo, hhi, h⟩ | ⟨hlo, h⟩ <;> rw [h] <;> dsimp only
    · by_cases hfull : strb = 0b1111#4
      · rw [if_pos hfull]
        refine .inr ⟨?_, rfl⟩
        rintro (hmis | ⟨-, hpartial⟩ | hbeyond)
        · exact hmis hal
        · exact hpartial hfull
        · omega
      · exact .inl ⟨.inr (.inl ⟨hhi, hfull⟩), if_neg hfull⟩
    · exact .inr ⟨by omega, rfl⟩
    · split
      · exact .inl ⟨by omega, rfl⟩
      · exact .inr ⟨by omega, s.windowWrite_answer _⟩
    · split
      · exact .inl ⟨by omega, rfl⟩
      · exact .inr ⟨by omega, s.windowWrite_answer _⟩
    · exact .inl ⟨by omega, rfl⟩
  · exact .inl ⟨.inl hal, if_pos ((misaligned_iff off).mpr hal)⟩

end Sys2Proof.Machine
end

section
/-! PROOFS. The statements of spec/60_exceptions.md. -/

namespace Sys2Proof.Machine

/-- Settles O8: such a word decodes to ILLEGAL_OPCODE, which the engine raises before it runs anything. -/
theorem illegalOpcodeWordAborts : Obligations.IllegalOpcodeWordAborts :=
  fun _ _ _ _ _ hwf hp hdue hop => step_aborts_of_error hwf hp hdue (decode_of_illegal hop)

/-- Settles O9: such a word decodes to RESERVED_FIELD (R95), which the engine raises before it runs anything. -/
theorem reservedFieldWordAborts : Obligations.ReservedFieldWordAborts :=
  fun _ _ _ _ _ hwf hp hdue hop hmask =>
    step_aborts_of_error hwf hp hdue (decode_eq_reservedField_iff.mpr ⟨opcode_lt_iff.mp hop, hmask⟩)

/-- Settles O13: `step`'s checks pass, and every turn answers (`turnStep_answers`). -/
theorem wellFormedBlockNeverStops : Obligations.WellFormedBlockNeverStops := by
  intro s hwf
  rw [step_eq_turnStep hwf]
  exact turnStep_answers s

/-- Settles O32: each frame command checks its geometry first (`exec_frame_of_bad`), so it raises before it wrote anything. -/
theorem illegalGeometryAbortsFrameCommand : Obligations.IllegalGeometryAbortsFrameCommand := by
  intro s w wl hl i hp hi hbad
  rw [← geometryOk_iff, Bool.not_eq_true] at hbad
  exact ⟨_, _, exec_frame_of_bad hp hbad hi, geometryInfo_toNat wl hl, abortsUntouched_raise s _ _⟩

/-- Settles O42. -/
theorem firstErrorIsKept : Obligations.FirstErrorIsKept :=
  fun s e info => ⟨fun h => if_pos h, fun h => if_neg h, abortsUntouched_raise s e info⟩

/-- Settles O43: the abort leaves the block IDLE under the same GEOM, so it accepts the next word (O44). -/
theorem nestedErrorAbortsUnrecorded : Obligations.NestedErrorAbortsUnrecorded := by
  intro s e info next herr
  obtain ⟨hc, hrecord, hresults, -⟩ := abortsUntouched_raise s e info
  obtain ⟨haccept, -⟩ := idleCmdWriteIsAccepted (s.raise e info) next hc.busy
  rw [haccept]
  exact ⟨hc, hrecord.kept herr, hresults,
    congrArg (fun geom => Phase.running next (geomWidth geom) (geomHeight geom)) hc.keeps.geom, rfl⟩

/-- Settles O51: the two outcomes of a transaction exclude each other, one on each side of `GetsBusError`. -/
theorem busErrorExactlyWhereStatedAndWithoutEffect : Obligations.BusErrorExactlyWhereStatedAndWithoutEffect := by
  intro s tx
  cases tx with
  | read off =>
    rcases s.hostRead_busError_or_ok off with ⟨hbad, h⟩ | ⟨hok, h⟩
    · exact ⟨fun _ => h, fun hok => absurd hbad hok⟩
    · exact ⟨fun hbad => absurd hbad hok, fun _ => .inl h⟩
  | write off w strb =>
    rcases s.hostWrite_busError_or_ok off w strb with ⟨hbad, h⟩ | ⟨hok, h⟩
    · exact ⟨fun _ => h, fun hok => absurd hbad hok⟩
    · exact ⟨fun hbad => absurd hbad hok, fun _ => .inr h⟩

end Sys2Proof.Machine
end

section
/-! PROOFS. Resets and hazards (spec/70_reset_and_hazards.md R240 to R242, R246): a host access to memory while BUSY = 1, the reset
table, the memory a soft reset abandons, and the first command after a reset. -/

namespace Sys2Proof.Machine

variable {s u : State} {w : Word}

/-! ### Memory accesses while BUSY = 1 (R246) -/

/-- An aperture offset within the capacity of PBUF or of RASTER (R62, R66, R67). -/
def WithinMemory (c : Config) (off : Offset) : Prop :=
  (0x100000 ≤ off.toNat ∧ off.toNat < 0x200000 ∧ off.toNat - 0x100000 < c.pbufBytes) ∨
  (0x200000 ≤ off.toNat ∧ off.toNat < 0x400000 ∧ off.toNat - 0x200000 < 4 * c.rasterWords)

/-- An aligned offset within a memory is that of one of its words. -/
theorem WithinMemory.exists_word {c : Config} {off : Offset} (h : WithinMemory c off) (hal : off.toNat % 4 = 0) :
    (∃ j, off.toNat = pbufAddr (4 * j) ∧ 4 * j < 0x100000 ∧ 4 * j < c.pbufBytes) ∨
    (∃ p, off.toNat = rasterAddr p 0 ∧ p < 0x80000 ∧ p < c.rasterWords) := by
  unfold pbufAddr rasterAddr
  rcases h with ⟨hlo, hhi, hcap⟩ | ⟨hlo, hhi, hcap⟩
  · exact .inl ⟨(off.toNat - 0x100000) / 4, by omega, by omega, by omega⟩
  · exact .inr ⟨(off.toNat - 0x200000) / 4, by omega, by omega, by omega⟩

theorem State.hostAccess_read_memory_busy {off : Offset} (hbusy : s.busy = true) (hal : off.toNat % 4 = 0)
    (h : WithinMemory s.cfg off) :
    s.hostAccess (.read off) = { s.answerRead (Config.freeWord s.draws) with draws := s.draws + 1 } := by
  rcases h.exists_word hal with ⟨j, hoff, hwin, hj⟩ | ⟨p, hoff, hwin, hp⟩
  · rw [State.hostAccess_read_pbuf hoff hwin hj, State.windowRead_busy hbusy]
  · rw [State.hostAccess_read_raster hoff hwin hp, State.windowRead_busy hbusy]

theorem State.hostAccess_write_memory_busy {off : Offset} (hbusy : s.busy = true) (hal : off.toNat % 4 = 0)
    (h : WithinMemory s.cfg off) (w : Word) (strb : BitVec 4) :
    s.hostAccess (.write off w strb) = { s.redrawAll with disturbed := true }.answerWrite := by
  rcases h.exists_word hal with ⟨j, hoff, hwin, hj⟩ | ⟨p, hoff, hwin, hp⟩
  · rw [State.hostAccess_write_pbuf hoff hwin hj, State.windowWrite_busy hbusy]
  · rw [State.hostAccess_write_raster hoff hwin hp, State.windowWrite_busy hbusy]

/-! ### The reset table (R240, R241) -/

theorem atResetValues_resetRegisters (s : State) : AtResetValues s.resetRegisters :=
  ⟨rfl, rfl, rfl, rfl, rfl, rfl, rfl, rfl, rfl, rfl, rfl⟩

/-- R240 of the model's own reset state, which resetting the registers leaves as it is. -/
theorem atResetValues_reset : AtResetValues State.reset := atResetValues_resetRegisters State.reset

theorem atResetValues_hardReset (s : State) : AtResetValues s.hardReset :=
  { atResetValues_resetRegisters s.redrawAll with }

theorem atResetValues_softReset (s : State) : AtResetValues s.softReset := atResetValues_resetRegisters s.abandon

/-- The answer of a write is no register. -/
theorem AtResetValues.answerWrite (h : AtResetValues s) : AtResetValues s.answerWrite := { h with }

/-- After a hardware reset every byte is of a new draw (R240). -/
theorem State.readByte_hardReset (s : State) (a : Nat) : s.hardReset.readByte a = Config.freeByte s.draws a :=
  s.readByte_redrawAll a

theorem State.softReset_cfg (s : State) : s.softReset.cfg = s.cfg := State.abandon_cfg s

/-! ### The memory a soft reset abandons (R80, R241) -/

/-- A full-strobe CTRL write with SRST set is the soft reset (R23). -/
theorem State.hostAccess_write_srst (s : State) (h : w.getLsbD 1 = true) :
    s.hostAccess (.write 0x004 w 0b1111) = s.softReset.answerWrite := by
  rw [s.hostAccess_write_register (r := .ctrl) rfl]
  exact congrArg State.answerWrite (if_pos h)

theorem State.readByte_softReset (s : State) (a : Nat) : s.softReset.readByte a = s.abandon.readByte a :=
  State.readByte_congr rfl rfl a

theorem destination_eq_none {i : Instr} (h : ¬ IsFrameCommand i) : destination i = .none := by
  cases i with
  | dither => exact absurd (.inl rfl) h
  | pack => exact absurd (.inr (.inl rfl)) h
  | unpack => exact absurd (.inr (.inr rfl)) h
  | nop | quant | lut | pack2 | pack2Dup | unpack1 => rfl

theorem wordDestination_of_command {i : Instr} (h : decode w = .command i) : wordDestination w = destination i := by
  unfold wordDestination; rw [h]

/-- A word that is no frame command writes no memory (R80, R94, R95). -/
theorem wordDestination_eq_none (h : ∀ i, decode w = .command i → ¬ IsFrameCommand i) : wordDestination w = .none := by
  cases hd : decode w with
  | command i => exact (wordDestination_of_command hd).trans (destination_eq_none (h i hd))
  | error e => unfold wordDestination; rw [hd]

section
variable {cmd : Word} {wl hl : BitVec 16} (hp : s.phase = .running cmd wl hl)
include hp

theorem State.abandon_of_none (hd : wordDestination cmd = .none) : s.abandon = s := by
  unfold State.abandon; simp only [hp, hd]

theorem State.abandon_of_raster (hd : wordDestination cmd = .raster) :
    s.abandon = s.redrawRaster (min (wl.toNat * hl.toNat) s.cfg.rasterWords) := by
  unfold State.abandon; simp only [hp, hd]

theorem State.abandon_of_pbuf (hd : wordDestination cmd = .pbuf) :
    s.abandon = s.redrawPbuf (min (bufferLength wl.toNat hl.toNat) s.cfg.pbufBytes) := by
  unfold State.abandon; simp only [hp, hd]

end

/-! ### The first command after a reset (R242) -/

/-- While IDLE a full-strobe CMD write accepts its word (R180). -/
theorem State.hostAccess_write_cmd_idle (h : u.busy = false) (w : Word) :
    u.hostAccess (.write 0x00C w 0b1111) = (u.accept w).answerWrite := by
  rw [u.hostAccess_write_register (r := .cmd) rfl, State.writeReg, State.writeCmd_idle h]

/-- After a reset a word is accepted under geometry (0, 0), since GEOM = 0. -/
theorem AtResetValues.accept_phase (h : AtResetValues u) (w : Word) : (u.accept w).phase = .running w 0 0 := by
  rw [State.accept_phase, h.geom]; rfl

/-- Geometry (0, 0) is illegal under every configuration (R205). -/
theorem geometryOk_zero (c : Config) : geometryOk c 0 0 = false := rfl

/-- R115, R116: QUANT of a palette colour completes with that entry's index. -/
theorem exec_quant_paletteColour (hdistinct : s.cfg.paletteDistinct = true) (i : Index) :
    ∃ t, exec (.quant (paletteColour s.cfg i).r (paletteColour s.cfg i).g (paletteColour s.cfg i).b) s = .next t ∧
      t.done = true ∧ t.err = s.err ∧ t.result0.toNat = i.toNat := by
  refine ⟨_, rfl, rfl, rfl, ?_⟩
  calc ((nearest8 s.cfg (paletteColour s.cfg i)).setWidth 32).toNat
    _ = (i.setWidth 32).toNat := by rw [nearest8_paletteColour hdistinct]
    _ = i.toNat := BitVec.toNat_setWidth_of_le (by decide)

end Sys2Proof.Machine
end

section
/-! PROOFS. The statements of spec/70_reset_and_hazards.md. -/

namespace Sys2Proof.Machine

/-- Settles O15. -/
theorem resetMeetsTheInvariant : Obligations.ResetMeetsTheInvariant where
  cfg_wf := by decide
  mem_wf := State.reset_mem_wf
  mem_inside := nofun
  running := nofun
  idle := fun _ => ⟨rfl, rfl⟩
  err_known := Nat.zero_le 5
  err_none := fun _ => rfl
  results := ⟨Nat.two_pow_pos 24, Nat.two_pow_pos 24⟩
  work_bound := nofun
  draws := Nat.zero_lt_one

/-- Settles O57: the reset turn is the hardware reset. -/
theorem hardResetSetsTheResetTable : Obligations.HardResetSetsTheResetTable := by
  refine ⟨fun s rest hwf hturns => ⟨{ s with turns := rest }.hardReset, ?_, atResetValues_hardReset _, rfl, rfl,
    State.readByte_hardReset _⟩, atResetValues_reset, rfl⟩
  rw [step_eq_turnStep hwf, State.turnStep_cons hturns]
  rfl

/-- Settles O56: an aligned offset within a memory is that of a word, which both windows answer alike while BUSY = 1. -/
theorem busyMemoryAccessIsUnspecified : Obligations.BusyMemoryAccessIsUnspecified :=
  fun s _ w strb hbusy hal hin => ⟨State.hostAccess_read_memory_busy hbusy hal hin, _,
    State.hostAccess_write_memory_busy hbusy hal hin w strb, rfl, s.readByte_redrawAll⟩

/-- Settles O58: the write is the soft reset, whose memory is what `State.abandon` leaves: by the running word's destination a
redrawn range of RASTER, one of PBUF, or all of memory as it was. -/
theorem softResetAbandonsTheCommand : Obligations.SoftResetAbandonsTheCommand := by
  intro s w hsrst
  have hread (a : Nat) : s.softReset.answerWrite.readByte a = s.abandon.readByte a := s.readByte_softReset a
  refine ⟨_, s.hostAccess_write_srst hsrst, rfl, s.softReset_cfg, (atResetValues_softReset s).answerWrite, ?_, ?_⟩
  · intro hidle a
    rw [hread, State.abandon_idle (State.busy_eq_false.mp hidle)]
  · intro cmd wl hl hp
    refine ⟨fun hd => ?_, fun hd => ?_, fun hd a => ?_⟩
    · have hraster : wordDestination cmd = .raster := hd.elim wordDestination_of_command wordDestination_of_command
      rw [State.abandon_of_raster hp hraster] at hread
      refine ⟨fun p hframe hcap => ?_, fun a ha => (hread a).trans (s.readByte_redrawRaster_outside ha)⟩
      exact (State.rasterPixel_congr fun _ _ => hread _).trans (s.rasterPixel_redrawRaster (lt_min hframe hcap))
    · rw [State.abandon_of_pbuf hp (wordDestination_of_command hd)] at hread
      refine ⟨fun k hframe hcap => ?_, fun a ha => (hread a).trans (s.readByte_redrawPbuf_outside ha)⟩
      exact (hread _).trans (s.pbufByte_redrawPbuf (lt_min hframe hcap))
    · rw [hread, State.abandon_of_none hp (wordDestination_eq_none hd)]

/-- Settles O59: either reset leaves the reset table, so a word is accepted under geometry (0, 0), which no frame command takes
(`exec_frame_of_bad`), with no error held and the palette as it was. -/
theorem blockWorksRightAfterReset : Obligations.BlockWorksRightAfterReset := by
  intro s u hwf hreset
  obtain ⟨hvalues, hcfg⟩ : AtResetValues u ∧ u.cfg = s.cfg := by
    rcases hreset with rfl | rfl
    · exact ⟨atResetValues_hardReset s, State.hardReset_cfg s⟩
    · exact ⟨atResetValues_softReset s, s.softReset_cfg⟩
  have hphase (w : Word) : (u.accept w).answerWrite.phase = .running w 0 0 := hvalues.accept_phase w
  have herr (w : Word) : (u.accept w).answerWrite.err = 0#4 := hvalues.err
  simp only [State.hostAccess_write_cmd_idle hvalues.busy]
  refine ⟨hphase, fun i hi => ?_, fun i => ?_⟩
  · obtain ⟨hcode, hinfo⟩ := State.raise_record (herr (encode i)) .badGeometry (geometryInfo 0 0)
    exact ⟨_, exec_frame_of_bad (hphase _) (geometryOk_zero _) hi, rfl, hcode, hinfo, State.readByte_raise _ _ _⟩
  · rw [← hcfg] at hwf ⊢
    obtain ⟨-, hdistinct⟩ := Config.wf_iff.mp hwf
    obtain ⟨t, ht, hdone, hkept, hindex⟩ := exec_quant_paletteColour (s := (u.accept _).answerWrite) hdistinct i
    exact ⟨t, ht, hdone, hkept.trans (herr _), hindex⟩

end Sys2Proof.Machine
end
